-- ==== Sys2Proof/Word.lean ====
section
/-! DEFINITION. The word types of EVSUB (00_scope.md R8, 30_encoding.md R70): every quantity is unsigned, bit 0 is the
least significant bit. Only the plainest things stand here. -/

namespace Sys2Proof

/-- One byte. -/
abbrev Byte := BitVec 8
/-- A touch point word, format `TP` (R71). -/
abbrev TpWord := BitVec 36
/-- A sample frame, format `SF` (R72). -/
abbrev SfWord := BitVec 74
/-- An event word, format `EV` (R73, R74): the message of `evb_q` and of the port `ui_event`. -/
abbrev EvWord := BitVec 40
/-- A control command, format `CC` (R75): the message of `ctl_q`. -/
abbrev CcWord := BitVec 8
/-- A log word, format `LG` (R78). -/
abbrev LgWord := BitVec 8
/-- A PMU status frame, format `PS` (R76): byte `r` is bits `8r+7:8r`. Eight bytes, the most `PMU_NREG` can be; the bytes
from `PMU_NREG` on are never read. -/
abbrev PsWord := BitVec 64
/-- A touch coordinate, `COORD_W` = 16 bits (R7). -/
abbrev Coord := BitVec 16
/-- A 32-bit draw from the random source (R167). -/
abbrev Draw := BitVec 32
/-- A down-timer in milliseconds, 10 bits (R40). -/
abbrev Timer := BitVec 10
/-- A PMU reason code `8*reg + bit` (R74). -/
abbrev ReasonCode := BitVec 6

/-- A position `(x, y)` (R8). -/
structure Pos where
  x : Coord
  y : Coord
deriving DecidableEq, Repr, Inhabited

end Sys2Proof
end

