-- ==== Sys2Proof/Syntax.lean ====
section
/-! DEFINITION. The items EVSUB's agents execute, one constructor of `Instr` for each row of the opcode table
(30_encoding.md R80), with their operands. A field the decoder ignores is an operand all the same: DSP forwards a window
word UNCHANGED (R205), so no bit of a word may be lost. -/

namespace Sys2Proof

/-- A touch id, 0 or 1 (R7 `TOUCH_IDS`). -/
inductive TouchId where
  | id0
  | id1
deriving DecidableEq, Repr, Inhabited

/-- The three keys of the button zone (R73). -/
inductive Key where
  | left
  | center
  | right
deriving DecidableEq, Repr, Inhabited

/-- The connectable mode of an advertisement (R26). -/
inductive AdvMode where
  | nonConnectable
  | undirected
deriving DecidableEq, Repr, Inhabited

/-- An advertisement address, `ADDR_LEN` = 6 bytes, `b0` is `addr[0]` (R26). -/
structure Address where
  b0 : Byte
  b1 : Byte
  b2 : Byte
  b3 : Byte
  b4 : Byte
  b5 : Byte
deriving DecidableEq, Repr, Inhabited

/-- Everything of a window event word but its `tag` and `kind` (R73): bit 38, `key` 34:33, `button` 32, `x` 31:16,
`y` 15:0. A variant that has not a field carries it all the same; EVSUB generates 0 there. -/
structure WindowFields where
  reserved : BitVec 1
  key : BitVec 2
  button : BitVec 1
  x : Coord
  y : Coord
deriving DecidableEq, Repr, Inhabited

/-- The items EVSUB's agents execute. -/
inductive Instr where
  /-- `TP.PRESSED`, one touch point with `state` 0; `z` is bit 33, never read (R71, R106, R107). -/
  | tpPressed (z : BitVec 1) (id : TouchId) (x : Coord) (y : Coord)
  /-- `TP.RELEASED`, one touch point with `state` 1. -/
  | tpReleased (z : BitVec 1) (id : TouchId) (x : Coord) (y : Coord)
  /-- `TP.MOVED`, one touch point with `state` 2. -/
  | tpMoved (z : BitVec 1) (id : TouchId) (x : Coord) (y : Coord)
  /-- `START` (R162); `unused` is bits 7:5 and `level` bits 2:0, both ignored. -/
  | start (unused : BitVec 3) (level : BitVec 3)
  /-- `STOP` (R163); bits 7:5 and 2:0 ignored. -/
  | stop (unused : BitVec 3) (level : BitVec 3)
  /-- `SETPOWER` (R164); bits 7:5 ignored. -/
  | setPower (unused : BitVec 3) (level : BitVec 3)
  /-- `TERMINATE` (R165); bits 7:5 and 2:0 ignored. -/
  | terminate (unused : BitVec 3) (level : BitVec 3)
  /-- `EV.PTR_PRESSED`, kind 0 (R205). -/
  | evPtrPressed (f : WindowFields)
  /-- `EV.PTR_MOVED`, kind 1 (R205). -/
  | evPtrMoved (f : WindowFields)
  /-- `EV.PTR_RELEASED`, kind 2 (R205). -/
  | evPtrReleased (f : WindowFields)
  /-- `EV.PTR_EXITED`, kind 3 (R205). -/
  | evPtrExited (f : WindowFields)
  /-- `EV.KEY_PRESSED`, kind 4 (R205). -/
  | evKeyPressed (f : WindowFields)
  /-- `EV.KEY_RELEASED`, kind 5 (R205). -/
  | evKeyReleased (f : WindowFields)
  /-- `EV.PMU` (R206); `unused` is bits 38:6, not inspected. -/
  | evPmu (unused : BitVec 33) (reg : BitVec 3) (bit : BitVec 3)
  /-- `RO.SET_ADDR` (R172). -/
  | roSetAddr (addr : Address)
  /-- `RO.SET_TXPWR` (R172). -/
  | roSetTxpwr (step : BitVec 3)
  /-- `RO.SET_ADV` (R172). -/
  | roSetAdv (mode : AdvMode) (payload : List Byte)
  /-- `RO.START_ADV` (R173). -/
  | roStartAdv
  /-- `RO.STOP_ADV` (R173). -/
  | roStopAdv
deriving DecidableEq, Repr, Inhabited

/-- The formats an item can travel in. The format of a word is known from the port or queue it travels on, never from
the word itself (R82). -/
inductive Format where
  | tp
  | cc
  | ev
  | ro
deriving DecidableEq, Repr

/-- One whole message with the format its port or queue gives it (R51, R82). A radio operation is its 3-bit code and its
operand bytes (R77; the operand bytes of each operation are those of `Instr` in order, DESIGN CHOICE, log entry 7). -/
inductive Message where
  | tp (w : TpWord)
  | cc (w : CcWord)
  | ev (w : EvWord)
  | ro (op : BitVec 3) (operands : List Byte)
deriving DecidableEq, Repr

/-- The format a message travels in. -/
def Message.format : Message → Format
  | .tp _ => .tp
  | .cc _ => .cc
  | .ev _ => .ev
  | .ro _ _ => .ro

/-- The format of an item: the `format` column of the opcode table. -/
def Instr.format : Instr → Format
  | .tpPressed _ _ _ _ => .tp
  | .tpReleased _ _ _ _ => .tp
  | .tpMoved _ _ _ _ => .tp
  | .start _ _ => .cc
  | .stop _ _ => .cc
  | .setPower _ _ => .cc
  | .terminate _ _ => .cc
  | .evPtrPressed _ => .ev
  | .evPtrMoved _ => .ev
  | .evPtrReleased _ => .ev
  | .evPtrExited _ => .ev
  | .evKeyPressed _ => .ev
  | .evKeyReleased _ => .ev
  | .evPmu _ _ _ => .ev
  | .roSetAddr _ => .ro
  | .roSetTxpwr _ => .ro
  | .roSetAdv _ _ => .ro
  | .roStartAdv => .ro
  | .roStopAdv => .ro

end Sys2Proof
end

