-- ==== Sys2Proof/WellFormed.lean ====
section
/-! DEFINITION. Which items are well formed: the canonical ones, with every reserved or unused field 0 and every field
in the range its format gives it (30_encoding.md R71, R73, R74, R75). These are the words EVSUB and a well-behaved sender
generate. An item that is not well formed still has its effect when it arrives (R81): the check is for statements. -/

namespace Sys2Proof

/-- The fields a pointer event with a position may have: bit 38 and `key` 0, and `button` its one value `PRIMARY`. -/
def WindowFields.pointerWf (f : WindowFields) : Bool :=
  f.reserved == 0 && f.key == 0 && f.button == 0

/-- The fields of `PointerExited`: it has none, so all are 0. -/
def WindowFields.exitedWf (f : WindowFields) : Bool :=
  f.pointerWf && f.x == 0 && f.y == 0

/-- The fields of a key event: `key` is 0, 1 or 2 (3 is reserved), the others 0. -/
def WindowFields.keyWf (f : WindowFields) : Bool :=
  f.reserved == 0 && f.key != 3 && f.button == 0 && f.x == 0 && f.y == 0

/-- The item is canonical. -/
def Instr.wf : Instr → Bool
  | .tpPressed z _ _ _ => z == 0
  | .tpReleased z _ _ _ => z == 0
  | .tpMoved z _ _ _ => z == 0
  | .start unused level => unused == 0 && level == 0
  | .stop unused level => unused == 0 && level == 0
  | .setPower unused _ => unused == 0
  | .terminate unused level => unused == 0 && level == 0
  | .evPtrPressed f => f.pointerWf
  | .evPtrMoved f => f.pointerWf
  | .evPtrReleased f => f.pointerWf
  | .evPtrExited f => f.exitedWf
  | .evKeyPressed f => f.keyWf
  | .evKeyReleased f => f.keyWf
  | .evPmu unused _ _ => unused == 0
  | .roSetAddr _ => true
  | .roSetTxpwr _ => true
  | .roSetAdv _ _ => true
  | .roStartAdv => true
  | .roStopAdv => true

end Sys2Proof
end

