-- ==== Sys2Proof/Decode.lean ====
section
/-! DEFINITION. Decoding and encoding of the items (30_encoding.md). `decode` is total: it gives the item of a message,
or rejects it by name. Which format a message has is known from its port or queue (R82), so a message carries it. -/

namespace Sys2Proof

/-- Why a message is no item of the opcode table. None of these is an error of the machine (R81): the agents give such a
word the effect R81 states. -/
inductive DecodeError where
  /-- `TP.state` is 3. -/
  | reservedTouchState
  /-- `EV.kind` is 6 or 7 with `tag` 0. -/
  | reservedEventKind
  /-- the radio operation code is 5, 6 or 7. -/
  | reservedRadioOp
  /-- the operand bytes are not those of the radio operation. -/
  | badRadioOperands
deriving DecidableEq, Repr

/-! ## Codes of the small fields -/

/-- The `id` bit of a touch point (R71). -/
def TouchId.bit : TouchId → BitVec 1
  | .id0 => 0
  | .id1 => 1

/-- The touch id of an `id` bit (R71). -/
def TouchId.ofBit (b : BitVec 1) : TouchId := if b = 0 then .id0 else .id1

/-- The code of a key (R73). -/
def Key.code : Key → BitVec 2
  | .left => 0
  | .center => 1
  | .right => 2

/-- The mode bit of an advertisement (R26, R77). -/
def AdvMode.bit : AdvMode → BitVec 1
  | .nonConnectable => 0
  | .undirected => 1

/-- The mode of a mode bit. -/
def AdvMode.ofBit (b : BitVec 1) : AdvMode := if b = 0 then .nonConnectable else .undirected

/-! ## Format `TP` (R71) -/

def TpWord.state (w : TpWord) : BitVec 2 := w.extractLsb' 34 2
def TpWord.reserved (w : TpWord) : BitVec 1 := w.extractLsb' 33 1
def TpWord.id (w : TpWord) : TouchId := TouchId.ofBit (w.extractLsb' 32 1)
def TpWord.x (w : TpWord) : Coord := w.extractLsb' 16 16
def TpWord.y (w : TpWord) : Coord := w.extractLsb' 0 16

/-- A touch point word from its fields. -/
def encodeTp (state : BitVec 2) (z : BitVec 1) (id : TouchId) (x y : Coord) : TpWord :=
  state ++ z ++ id.bit ++ x ++ y

/-- The item of a touch point word, selected by `state`. -/
def decodeTp (w : TpWord) : Except DecodeError Instr :=
  if w.state = 0 then .ok (.tpPressed w.reserved w.id w.x w.y)
  else if w.state = 1 then .ok (.tpReleased w.reserved w.id w.x w.y)
  else if w.state = 2 then .ok (.tpMoved w.reserved w.id w.x w.y)
  else .error .reservedTouchState

/-! ## Format `CC` (R75) -/

/-- A command word from its fields. -/
def encodeCc (unused : BitVec 3) (op : BitVec 2) (level : BitVec 3) : CcWord := unused ++ op ++ level

/-- The command of a word, selected by `op = w[4:3]` alone: every word is one (R81). -/
def decodeCc (w : CcWord) : Instr :=
  let unused : BitVec 3 := w.extractLsb' 5 3
  let level : BitVec 3 := w.extractLsb' 0 3
  let op : BitVec 2 := w.extractLsb' 3 2
  if op = 0 then .start unused level
  else if op = 1 then .stop unused level
  else if op = 2 then .setPower unused level
  else .terminate unused level

/-! ## Format `EV` (R73, R74) -/

/-- The `tag` bit: set for a PMU event. -/
def EvWord.tag (w : EvWord) : Bool := w.getLsbD 39
/-- The `kind` of a window event. -/
def EvWord.kind (w : EvWord) : BitVec 3 := w.extractLsb' 35 3
/-- The other fields of a window event. -/
def EvWord.fields (w : EvWord) : WindowFields where
  reserved := w.extractLsb' 38 1
  key := w.extractLsb' 33 2
  button := w.extractLsb' 32 1
  x := w.extractLsb' 16 16
  y := w.extractLsb' 0 16

/-- A window event word from its kind and its other fields. -/
def encodeWindow (kind : BitVec 3) (f : WindowFields) : EvWord :=
  0#1 ++ f.reserved ++ kind ++ f.key ++ f.button ++ f.x ++ f.y

/-- A PMU event word from its fields. -/
def encodePmu (unused : BitVec 33) (reg bit : BitVec 3) : EvWord := 1#1 ++ unused ++ reg ++ bit

/-- The item of an event word, selected by `tag` and `kind` (R80). -/
def decodeEv (w : EvWord) : Except DecodeError Instr :=
  if w.tag then .ok (.evPmu (w.extractLsb' 6 33) (w.extractLsb' 3 3) (w.extractLsb' 0 3))
  else if w.kind = 0 then .ok (.evPtrPressed w.fields)
  else if w.kind = 1 then .ok (.evPtrMoved w.fields)
  else if w.kind = 2 then .ok (.evPtrReleased w.fields)
  else if w.kind = 3 then .ok (.evPtrExited w.fields)
  else if w.kind = 4 then .ok (.evKeyPressed w.fields)
  else if w.kind = 5 then .ok (.evKeyReleased w.fields)
  else .error .reservedEventKind

/-! ## Format `RO` (R77) -/

/-- The six bytes of an address, `addr[0]` first. -/
def Address.bytes (a : Address) : List Byte := [a.b0, a.b1, a.b2, a.b3, a.b4, a.b5]

/-- The radio operation of a code and its operand bytes: an address is six bytes, `addr[0]` first; a power step one byte
0..7; a mode one byte 0 or 1 with the payload after it; the other two have none. -/
def decodeRo (op : BitVec 3) (operands : List Byte) : Except DecodeError Instr :=
  if op = 0 then
    match operands with
    | [b0, b1, b2, b3, b4, b5] => .ok (.roSetAddr ⟨b0, b1, b2, b3, b4, b5⟩)
    | _ => .error .badRadioOperands
  else if op = 1 then
    match operands with
    | [v] => if v.toNat < 8 then .ok (.roSetTxpwr (v.extractLsb' 0 3)) else .error .badRadioOperands
    | _ => .error .badRadioOperands
  else if op = 2 then
    match operands with
    | m :: payload =>
      if m.toNat < 2 then .ok (.roSetAdv (AdvMode.ofBit (m.extractLsb' 0 1)) payload) else .error .badRadioOperands
    | [] => .error .badRadioOperands
  else if op = 3 then
    match operands with
    | [] => .ok .roStartAdv
    | _ :: _ => .error .badRadioOperands
  else if op = 4 then
    match operands with
    | [] => .ok .roStopAdv
    | _ :: _ => .error .badRadioOperands
  else .error .reservedRadioOp

/-! ## All formats -/

/-- The item of a message, or the name of what is wrong with it. -/
def decode : Message → Except DecodeError Instr
  | .tp w => decodeTp w
  | .cc w => .ok (decodeCc w)
  | .ev w => decodeEv w
  | .ro op operands => decodeRo op operands

/-- The message of an item. -/
def encode : Instr → Message
  | .tpPressed z id x y => .tp (encodeTp 0 z id x y)
  | .tpReleased z id x y => .tp (encodeTp 1 z id x y)
  | .tpMoved z id x y => .tp (encodeTp 2 z id x y)
  | .start unused level => .cc (encodeCc unused 0 level)
  | .stop unused level => .cc (encodeCc unused 1 level)
  | .setPower unused level => .cc (encodeCc unused 2 level)
  | .terminate unused level => .cc (encodeCc unused 3 level)
  | .evPtrPressed f => .ev (encodeWindow 0 f)
  | .evPtrMoved f => .ev (encodeWindow 1 f)
  | .evPtrReleased f => .ev (encodeWindow 2 f)
  | .evPtrExited f => .ev (encodeWindow 3 f)
  | .evKeyPressed f => .ev (encodeWindow 4 f)
  | .evKeyReleased f => .ev (encodeWindow 5 f)
  | .evPmu unused reg bit => .ev (encodePmu unused reg bit)
  | .roSetAddr a => .ro 0 a.bytes
  | .roSetTxpwr step => .ro 1 [step.setWidth 8]
  | .roSetAdv mode payload => .ro 2 (mode.bit.setWidth 8 :: payload)
  | .roStartAdv => .ro 3 []
  | .roStopAdv => .ro 4 []

/-! ## Words of the opcode table, given without a port

The width alone does not name the format (R82): in whole bytes `TP` and `EV` have both 40 bits, `CC` and `RO` both 8. An
exact width names it; in whole bytes the queue formats (`EV`, `CC`) come first, and the other one is taken where the word
is no canonical word of the first and is one of the other (DESIGN CHOICE, log entry 8). -/

/-- Byte `k` of a number whose lowest bits are radio operand bytes. -/
def tableByte (w k : Nat) : Byte := BitVec.ofNat 8 (w / 2 ^ (8 * k))

/-- The radio operation whose code is bits 2:0 of `w`, as the rows' `match` and `mask` in opcode_table.json have it. The rest is
the model's (DESIGN CHOICE, log entry 30), since R77 gives the operands no bit positions: they begin at bit 3, an address with
`addr[0]` lowest, a step in bits 5:3, a mode in bit 3 and from bit 4 on the payload's whole bytes, the first lowest;
every bit above the operands is dropped. -/
def tableRadio (nbits w : Nat) : Message :=
  let op := BitVec.ofNat 3 w
  let rest := w / 8
  if op = 0 then .ro op ((List.range 6).map (tableByte rest))
  else if op = 1 then .ro op [BitVec.ofNat 8 (rest % 8)]
  else if op = 2 then .ro op (BitVec.ofNat 8 (rest % 2) :: (List.range ((nbits - 4) / 8)).map (tableByte (rest / 2)))
  else .ro op []

/-- Whether the decoder reads a canonical item from the message. -/
def tableCanonical (m : Message) : Bool :=
  match decode m with
  | .ok i => i.wf
  | .error _ => false

/-- The message whose bits are `w`. -/
def tableMessage (nbits w : Nat) : Option Message :=
  if nbits = 36 then some (.tp (BitVec.ofNat 36 w))
  else if nbits = 40 then
    let ev := Message.ev (BitVec.ofNat 40 w)
    let tp := Message.tp (BitVec.ofNat 36 w)
    if !tableCanonical ev && decide (w < 2 ^ 36) && tableCanonical tp then some tp else some ev
  else if nbits = 8 then
    let cc := Message.cc (BitVec.ofNat 8 w)
    let ro := tableRadio nbits w
    if !tableCanonical cc && tableCanonical ro then some ro else some cc
  else if nbits = 0 then none
  else some (tableRadio nbits w)

/-- The item the decoder reads from a word of the opcode table. -/
def decodeTableWord (nbits w : Nat) : Option Instr :=
  match tableMessage nbits w with
  | none => none
  | some m =>
    match decode m with
    | .ok i => some i
    | .error _ => none

end Sys2Proof
end

