-- ==== Sys2Proof/Config.lean ====
section
/-! DEFINITION. The parameters of EVSUB (00_scope.md R7) and the environment.

A number the spec gives is a definition with that value. An OPEN parameter (92_eei_decisions.md section 8) is a field of
`Params`; a statement about every state holds for every value of it. The values of the machine that comes out of
reset are built from constants with no body, so nothing in Lean can say what they are (log entry 2). What the environment
chooses at each step is a `Choice`; where nobody has scripted it, it is the constant `Config.environment`, again without
a body (log entry 1). -/

namespace Sys2Proof

/-! ## Parameters with a value in the spec (R7)

Where a parameter is the size of a type (`TouchId`, `Coord`, `Byte`, `Address`), Laws/Config.lean proves that it is. -/

/-- `TOUCH_IDS`: the number of touch ids, the constructors of `TouchId`. -/
def Config.touchIds : Nat := 2
/-- `COORD_W`: the width of a `Coord`. -/
def Config.coordW : Nat := 16
/-- `TOUCH_CADENCE_MS`, "about 19": the controller's own refresh cadence, informational; no rule reads it. -/
def Config.touchCadenceMs : Nat := 19
/-- `PMU_REG_W`: the bits of one interrupt-status register, a `Byte`. -/
def Config.pmuRegW : Nat := 8
/-- `ADV_POWER_STEPS`: the hardware power steps, 0 to 7. -/
def Config.advPowerSteps : Nat := 8
/-- `ADDR_LEN`: the bytes of an advertisement `Address`. -/
def Config.addrLen : Nat := 6
def Config.ySplit : Coord := 240
def Config.xLeftEnd : Coord := 107
def Config.xCenterEnd : Coord := 214
def Config.xRightEnd : Coord := 320
def Config.tgaPollMs : Timer := 20
def Config.pmuGuardMs : Timer := 50
def Config.evbCap : Nat := 32
def Config.ctlCap : Nat := 3
def Config.advIdleMs : Timer := 500
def Config.advHoldMs : Timer := 1000
def Config.dspAnimMs : Timer := 10
def Config.dspIdleMs : Timer := 50
/-- `TGA_LASTPOS_INIT` (R7, 92 D12). -/
def Config.lastPosInit : Pos := ⟨0xFFFF, 0xFFFF⟩
/-- The feedback mask of the reference generator (42_adv_randomizer.md R178). -/
def Config.lfsrMask : Draw := 0x80200003

/-- `EVB_ARB`: the order of two pushes that contend for the bus (R7, 20_memory.md R62). -/
inductive BusArbitration where
  | any
  | touchFirst
  | pmuFirst
deriving DecidableEq, Repr, Inhabited

/-- `ADV_RNG_MODE`: where the draws come from (R7, R177, R178). -/
inductive RngMode where
  | oracle
  | lfsr32
deriving DecidableEq, Repr, Inhabited

/-- The parameters an implementation fixes (R7). They are data that no step writes (10_state.md R34). -/
structure Params where
  /-- `PMU_NREG`, 1..8 -/
  pmuNreg : Nat
  /-- `PMU_MASK[r]`, one byte per register, a 1 where a bit is kept -/
  pmuMask : List Byte
  /-- `PMU_CODE_PEK_SHORT` -/
  codePekShort : ReasonCode
  /-- `PMU_CODE_BAT_WARN_L2` -/
  codeBatWarnL2 : ReasonCode
  /-- `PMU_CODE_BAT_WARN_L1` -/
  codeBatWarnL1 : ReasonCode
  /-- `ADV_POWER_INIT`, 0..7 -/
  powerInit : BitVec 3
  /-- `ADV_POOL_LONG` -/
  poolLong : List (List Byte)
  /-- `ADV_POOL_SHORT` -/
  poolShort : List (List Byte)
  /-- `ADV_SETTLE_MS`, 10..50 -/
  settleMs : Timer
  /-- `TIRQ_LATCH`, true by default -/
  tirqLatch : Bool
  /-- `EVB_ARB`, ANY by default -/
  evbArb : BusArbitration
  /-- `ADV_RNG_MODE`, ORACLE by default -/
  rngMode : RngMode
  /-- `ADV_RNG_SEED`, not 0 -/
  rngSeed : Draw
deriving DecidableEq, Repr, Inhabited

/-- Every entry of a pool has the length of the first (R168: "fixed-length byte sequence"). -/
def Params.poolWf (pool : List (List Byte)) : Bool :=
  !pool.isEmpty && pool.all fun e => e.length == (pool.headD []).length

/-- The constraints 92_eei_decisions.md section 8 puts on the OPEN parameters. -/
def Params.legal (p : Params) : Bool :=
  decide (1 ≤ p.pmuNreg) && decide (p.pmuNreg ≤ 8) && p.pmuMask.length == p.pmuNreg
    && decide (p.codePekShort.toNat < Config.pmuRegW * p.pmuNreg)
    && decide (p.codeBatWarnL2.toNat < Config.pmuRegW * p.pmuNreg)
    && decide (p.codeBatWarnL1.toNat < Config.pmuRegW * p.pmuNreg)
    && p.codePekShort != p.codeBatWarnL2 && p.codePekShort != p.codeBatWarnL1
    && p.codeBatWarnL2 != p.codeBatWarnL1
    && Params.poolWf p.poolLong && Params.poolWf p.poolShort
    && decide (10 ≤ p.settleMs.toNat) && decide (p.settleMs.toNat ≤ 50)
    && p.rngSeed != 0

/-! ## The OPEN parameters of the machine that comes out of reset: constants with no body -/

/-- `PMU_NREG` less one: any of 0..7. -/
opaque Config.pmuNregLessOne : Fin 8
/-- The mask byte of each register: any byte. -/
opaque Config.pmuMaskByte : Nat → Byte
/-- Selects `PMU_CODE_PEK_SHORT` among the codes below `8*PMU_NREG`. -/
opaque Config.pekShortPick : Nat
/-- Selects `PMU_CODE_BAT_WARN_L2` among the codes that are left. -/
opaque Config.batWarnL2Pick : Nat
/-- Selects `PMU_CODE_BAT_WARN_L1` among the codes that are left. -/
opaque Config.batWarnL1Pick : Nat
/-- `ADV_POWER_INIT`. -/
opaque Config.powerInit : BitVec 3
/-- The number of entries, less one, of the long and the short pool. -/
opaque Config.poolLongMore : Nat
opaque Config.poolShortMore : Nat
/-- The entry length of the long and the short pool. -/
opaque Config.poolLongLen : Nat
opaque Config.poolShortLen : Nat
/-- The bytes of the long and the short pool, by entry and byte index. -/
opaque Config.poolLongByte : Nat → Nat → Byte
opaque Config.poolShortByte : Nat → Nat → Byte
/-- `ADV_SETTLE_MS` less 10: any of 0..40. -/
opaque Config.settleLessTen : Fin 41
/-- `ADV_RNG_SEED`, with 0 standing for 1. -/
opaque Config.rngSeedRaw : Draw

/-- A pool of `more + 1` entries of `len` bytes each. -/
def Config.poolOf (more len : Nat) (byte : Nat → Nat → Byte) : List (List Byte) :=
  (List.range (more + 1)).map fun i => (List.range len).map (byte i)

/-- `PMU_NREG` of the machine that comes out of reset. -/
def Config.pmuNreg : Nat := Config.pmuNregLessOne.val + 1

/-- The reason codes a PMU with `PMU_NREG` registers has (R74). -/
def Config.codes : List Nat := List.range (Config.pmuRegW * Config.pmuNreg)

/-- The three named codes: each is picked among those the ones before it have left, so they are distinct, and every
three distinct codes can be picked. -/
def Config.codePekShort : Nat := Config.codes.getD (Config.pekShortPick % Config.codes.length) 0
def Config.codesLeftL2 : List Nat := Config.codes.erase Config.codePekShort
def Config.codeBatWarnL2 : Nat := Config.codesLeftL2.getD (Config.batWarnL2Pick % Config.codesLeftL2.length) 0
def Config.codesLeftL1 : List Nat := Config.codesLeftL2.erase Config.codeBatWarnL2
def Config.codeBatWarnL1 : Nat := Config.codesLeftL1.getD (Config.batWarnL1Pick % Config.codesLeftL1.length) 0

/-- The parameters of the machine that comes out of reset: every OPEN one from the constants above, so any legal value;
`TIRQ_LATCH`, `EVB_ARB`, `ADV_RNG_MODE` at the values of R7's table (log entry 3). -/
def Config.params : Params where
  pmuNreg := Config.pmuNreg
  pmuMask := (List.range Config.pmuNreg).map Config.pmuMaskByte
  codePekShort := BitVec.ofNat 6 Config.codePekShort
  codeBatWarnL2 := BitVec.ofNat 6 Config.codeBatWarnL2
  codeBatWarnL1 := BitVec.ofNat 6 Config.codeBatWarnL1
  powerInit := Config.powerInit
  poolLong := Config.poolOf Config.poolLongMore Config.poolLongLen Config.poolLongByte
  poolShort := Config.poolOf Config.poolShortMore Config.poolShortLen Config.poolShortByte
  settleMs := BitVec.ofNat 10 (Config.settleLessTen.val + 10)
  tirqLatch := true
  evbArb := .any
  rngMode := .oracle
  rngSeed := if Config.rngSeedRaw = 0 then 1 else Config.rngSeedRaw

/-! ## The environment -/

/-- The four agents, in the order of their numbers in the log word (60_exceptions.md R253). -/
inductive Agent where
  | tga
  | pid
  | adv
  | dsp
deriving DecidableEq, Repr, Inhabited

/-- The answer of a fallible call with a result (R9: `Ok(v)` or `Err`). -/
inductive Reply (α : Type) where
  | ok (v : α)
  | err
deriving DecidableEq, Repr, Inhabited

/-- The answer of a fallible call without a result. -/
inductive Status where
  | ok
  | err
deriving DecidableEq, Repr, Inhabited

/-- What the input ports show an agent during its step (10_state.md R39): the level of `pirq`, the answers the
collaborators give the call this step may make, two draws, and the answers of the two UI queries. All chosen by the
environment (60_exceptions.md R252, 93 U8, U9). -/
structure Inputs where
  /-- the answer of `Call touch.read()` -/
  touch : Reply SfWord
  /-- whether the PMU line is asserted (R242) -/
  pirq : Bool
  /-- the answer of `Call pmu.read_irq_status()` -/
  pmuRead : Reply PsWord
  /-- the answer of `Call pmu.clear_irq_status()` -/
  pmuClear : Status
  /-- the answer of the radio operation -/
  radio : Status
  /-- what the random source gives for the first and the second draw (R177) -/
  draw1 : Draw
  draw2 : Draw
  /-- the redraw-needed query (R211) -/
  uiDamage : Bool
  /-- the animation-active query, made after the redraw (92 D40) -/
  uiAnim : Bool
deriving DecidableEq, Repr, Inhabited

/-- Nothing happens at the ports: an empty sample, no line asserted, every call succeeds. -/
def Inputs.quiet : Inputs where
  touch := .ok 0
  pirq := false
  pmuRead := .ok 0
  pmuClear := .ok
  radio := .ok
  draw1 := 0
  draw2 := 0
  uiDamage := false
  uiAnim := false

/-- What happens next, as the environment and the scheduler choose it (00_scope.md R11; 93 U7). -/
inductive Choice where
  /-- the agent `a` may take its step, and finds `inp` at the input ports -/
  | agent (a : Agent) (inp : Inputs)
  /-- a falling edge on `tirq` (R241) -/
  | touchEdge
  /-- a command word is offered at `cmd_in` (R52, R213) -/
  | command (w : CcWord)
  /-- a pulse on `ui_power_off` (R214, R256) -/
  | uiPowerOff
  /-- `ms` milliseconds pass (R12, R40) -/
  | elapse (ms : Nat)
  /-- the surrounding software asks for the elapsed time (R251) -/
  | elapsedQuery
  /-- power-on reset (70_reset_and_hazards.md R280) -/
  | powerOnReset
deriving DecidableEq, Repr, Inhabited

/-- The `n`-th choice of the environment where nobody has scripted it: any choice at all. -/
opaque Config.environment : Nat → Choice

end Sys2Proof
end

