-- ==== Sys2Proof/Machine/State.lean ====
section
/-! DEFINITION. The state of EVSUB (10_state.md R20 to R40) as plain data. Every agent's private registers are one
structure, so that a step of one agent visibly leaves the others' alone. After the spec's registers stand the MODEL's own
two fields, `cfg` (the parameters, which no step writes) and `env` (the environment's side of the ports). -/

namespace Sys2Proof.Machine

/-- TGA's phase register `t_phase`, 3 bits (R22). -/
inductive TPhase where
  /-- `T_WAIT` (0) -/
  | wait
  /-- `T_READ` (1) -/
  | read
  /-- `T_EMIT` (2) -/
  | emit
  /-- `T_SLEEP` (3) -/
  | sleep
  /-- `T_HALT` (4) -/
  | halt
deriving DecidableEq, Repr, Inhabited

/-- PID's phase register `p_phase`, 3 bits (R25). -/
inductive PPhase where
  /-- `P_WAIT` (0) -/
  | wait
  /-- `P_READ` (1) -/
  | read
  /-- `P_CLEAR` (2) -/
  | clear
  /-- `P_EMIT` (3) -/
  | emit
  /-- `P_SLEEP` (4) -/
  | sleep
  /-- `P_HALT` (5) -/
  | halt
deriving DecidableEq, Repr, Inhabited

/-- ADV's phase register `a_phase`, 4 bits (R27). -/
inductive APhase where
  /-- `A_DRAIN` (0) -/
  | drain
  /-- `A_IDLE` (1) -/
  | idle
  /-- `A_SYNTH` (2) -/
  | synth
  /-- `A_SETADDR` (3) -/
  | setAddr
  /-- `A_SETPWR` (4) -/
  | setPwr
  /-- `A_SETADV` (5) -/
  | setAdv
  /-- `A_START` (6) -/
  | start
  /-- `A_HOLD` (7) -/
  | hold
  /-- `A_STOP` (8) -/
  | stop
  /-- `A_SETTLE` (9) -/
  | settle
  /-- `A_TERM` (10) -/
  | term
  /-- `A_HALT` (11) -/
  | halt
deriving DecidableEq, Repr, Inhabited

/-- DSP's phase register `d_phase`, 2 bits (R31). -/
inductive DPhase where
  /-- `D_DRAIN` (0) -/
  | drain
  /-- `D_REDRAW` (1) -/
  | redraw
  /-- `D_SLEEP` (2) -/
  | sleep
deriving DecidableEq, Repr, Inhabited

/-- The codes of the phase registers (R22, R25, R27, R31). The values a register's bits could hold beyond these are
never taken. -/
def TPhase.code : TPhase → BitVec 3
  | .wait => 0
  | .read => 1
  | .emit => 2
  | .sleep => 3
  | .halt => 4

def PPhase.code : PPhase → BitVec 3
  | .wait => 0
  | .read => 1
  | .clear => 2
  | .emit => 3
  | .sleep => 4
  | .halt => 5

def APhase.code : APhase → BitVec 4
  | .drain => 0
  | .idle => 1
  | .synth => 2
  | .setAddr => 3
  | .setPwr => 4
  | .setAdv => 5
  | .start => 6
  | .hold => 7
  | .stop => 8
  | .settle => 9
  | .term => 10
  | .halt => 11

def DPhase.code : DPhase → BitVec 2
  | .drain => 0
  | .redraw => 1
  | .sleep => 2

/-- The charge-indicator pattern `d_led` (R30): `LED_DEFAULT` = 0, `LED_SLOW_BLINK` = 1. -/
inductive LedPattern where
  | default
  | slowBlink
deriving DecidableEq, Repr, Inhabited

/-- The per-id registers `t_active[i]` and `t_last[i]` (R21). -/
structure PerTouch where
  active : Bool
  last : Pos
deriving DecidableEq, Repr, Inhabited

/-- TGA's registers (R21 to R24, R40). -/
structure Tga where
  /-- `t_phase` (R22) -/
  phase : TPhase
  /-- `t_active[0]`, `t_last[0]` (R21) -/
  touch0 : PerTouch
  /-- `t_active[1]`, `t_last[1]` (R21) -/
  touch1 : PerTouch
  /-- `t_pointer`, `NONE`, 0 or 1 (R21) -/
  pointer : Option TouchId
  /-- `t_empty` (R22) -/
  empty : Bool
  /-- `t_outq` (R24) -/
  outq : List EvWord
  /-- `tirq_pend` (R23) -/
  irqPend : Bool
  /-- `t_timer` (R40) -/
  timer : Timer
deriving DecidableEq, Repr, Inhabited

/-- PID's registers (R25, R40). -/
structure Pid where
  /-- `p_phase` -/
  phase : PPhase
  /-- `p_stat[0..PMU_NREG-1]`, register index 0 first -/
  stat : List Byte
  /-- `p_outq` -/
  outq : List EvWord
  /-- `p_timer` -/
  timer : Timer
deriving DecidableEq, Repr, Inhabited

/-- The advertisement profile `a_profile` (R26). -/
structure Profile where
  payload : List Byte
  addr : Address
  mode : AdvMode
  step : BitVec 3
deriving DecidableEq, Repr, Inhabited

/-- ADV's registers (R26, R27, R40), and the reference generator's state `g` (42_adv_randomizer.md R178). -/
structure Adv where
  /-- `a_phase` (R27) -/
  phase : APhase
  /-- `a_running` (R26) -/
  running : Bool
  /-- `a_power` (R26) -/
  power : BitVec 3
  /-- `a_r1` (R26) -/
  r1 : Draw
  /-- `a_r2` (R26) -/
  r2 : Draw
  /-- `a_profile` (R26) -/
  profile : Profile
  /-- `g`, used only with `ADV_RNG_MODE = LFSR32` (R178) -/
  rng : Draw
  /-- `a_timer` (R40) -/
  timer : Timer
deriving DecidableEq, Repr, Inhabited

/-- DSP's registers (R30, R31, R40). -/
structure Dsp where
  /-- `d_phase` (R31) -/
  phase : DPhase
  /-- `d_lock` (R30) -/
  lock : Bool
  /-- `d_backlight` (R30): the output `backlight_en` -/
  backlight : Bool
  /-- `d_led` (R30): the output `led_pattern` -/
  led : LedPattern
  /-- `d_timer` (R40) -/
  timer : Timer
deriving DecidableEq, Repr, Inhabited

/-- A radio operation as the radio port shows it (30_encoding.md R77). -/
inductive RadioOp where
  | setAddr (addr : Address)
  | setTxpwr (step : BitVec 3)
  | setAdv (mode : AdvMode) (payload : List Byte)
  | startAdv
  | stopAdv
deriving DecidableEq, Repr, Inhabited

/-- The fallible calls EVSUB makes (60_exceptions.md R252). -/
inductive Call where
  | touchRead
  | pmuRead
  | pmuClear
  | radio (op : RadioOp)
deriving DecidableEq, Repr, Inhabited

/-- What leaves the output ports (10_state.md R39). `backlight_en` and `led_pattern` are levels and are read from the
state instead. -/
inductive Output where
  /-- a collaborator call was made, and answered so -/
  | call (c : Call) (r : Status)
  /-- a word forwarded to the UI runtime -/
  | uiEvent (w : EvWord)
  /-- a `redraw` pulse -/
  | redraw
  /-- a `power_off` pulse -/
  | powerOff
  /-- a log word -/
  | log (w : LgWord)
  /-- the elapsed time asked for, in ms (60_exceptions.md R251) -/
  | elapsed (ms : Nat)
deriving DecidableEq, Repr, Inhabited

/-- The environment's side, the MODEL's own and no register of the spec (10_state.md R20: "parameters of the step
relation"). -/
structure Env where
  /-- what the input ports show now (log entry 21 for its value at reset) -/
  inp : Inputs
  /-- the environment's next choices, where somebody has fixed them; afterwards they are free (log entry 1) -/
  script : List Choice
  /-- how many free choices have been taken: the argument of `Config.environment` -/
  idx : Nat
  /-- elapsed model time in ms (log entry 17) -/
  nowMs : Nat
  /-- what has left the output ports, oldest first (log entry 14) -/
  outs : List Output
deriving DecidableEq, Repr, Inhabited

/-- The state of EVSUB. -/
structure State where
  tga : Tga
  pid : Pid
  adv : Adv
  dsp : Dsp
  /-- `evb_q`, head first (R28) -/
  evbQ : List EvWord
  /-- `ctl_q`, head first (R29) -/
  ctlQ : List CcWord
  /-- `sys_off` (R32) -/
  sysOff : Bool
  /-- the process-wide start instant, once taken (60_exceptions.md R251) -/
  startInstant : Option Nat
  /-- the parameters (00_scope.md R7), which no step writes -/
  cfg : Params
  env : Env
deriving DecidableEq, Repr, Inhabited

/-- The fatal faults of EVSUB (60_exceptions.md R244), each raised by one failing call. They halt one agent (R245); none
stops the machine. -/
inductive FatalCause where
  /-- `TOUCH_READ_FAIL` (1), TGA -/
  | touchRead
  /-- `PMU_READ_FAIL` (2), PID -/
  | pmuRead
  /-- `PMU_CLEAR_FAIL` (3), PID -/
  | pmuClear
  /-- `RADIO_SET_ADDR_FAIL` (4), ADV -/
  | radioSetAddr
  /-- `RADIO_SET_TXPWR_FAIL` (5), ADV -/
  | radioSetTxpwr
  /-- `RADIO_SET_ADV_FAIL` (6), ADV -/
  | radioSetAdv
  /-- `RADIO_START_FAIL` (7), ADV -/
  | radioStart
  /-- `RADIO_STOP_FAIL` (8), ADV -/
  | radioStop
deriving DecidableEq, Repr, Inhabited

/-- Why the machine stops with a fault: never. The spec's one kind of fault, `raise Fatal` (60_exceptions.md R245),
halts one agent while the machine goes on, so it is a next state; and there is no address that could be absent (20_memory.md
R50). Safe: no statement can rest on a stop that the hardware does not make (log entry 20). -/
inductive Fault where
deriving DecidableEq, Repr

/-- Why an item has no meaning. -/
inductive Refusal where
  /-- The item of this mnemonic is not modelled. Raised by an arm of `exec` only; no arm does. Safe. -/
  | notModelled (mnemonic : String)
deriving DecidableEq, Repr

/-- A step's result. -/
abbrev Result := Host.Outcome State Fault Refusal

/-! ## Updates, one field each (their lemmas are in Laws/State.lean) -/

namespace State

def setTga (s : State) (v : Tga) : State := { s with tga := v }
def setPid (s : State) (v : Pid) : State := { s with pid := v }
def setAdv (s : State) (v : Adv) : State := { s with adv := v }
def setDsp (s : State) (v : Dsp) : State := { s with dsp := v }
def setEvbQ (s : State) (v : List EvWord) : State := { s with evbQ := v }
def setCtlQ (s : State) (v : List CcWord) : State := { s with ctlQ := v }
def setSysOff (s : State) (v : Bool) : State := { s with sysOff := v }
def setStartInstant (s : State) (v : Option Nat) : State := { s with startInstant := v }
def setEnv (s : State) (v : Env) : State := { s with env := v }

end State

/-! ## Reset (R37, 70_reset_and_hazards.md R280) -/

/-- The registers of one touch id at reset and at a session start (R21). -/
def PerTouch.init : PerTouch := ⟨false, Config.lastPosInit⟩

/-- TGA at reset. -/
def Tga.reset : Tga where
  phase := .wait
  touch0 := PerTouch.init
  touch1 := PerTouch.init
  pointer := none
  empty := false
  outq := []
  irqPend := false
  timer := 0

/-- PID at reset; `p_stat` has no reset value in the spec (DESIGN CHOICE 0, log entry 4). -/
def Pid.reset (p : Params) : Pid where
  phase := .wait
  stat := List.replicate p.pmuNreg 0
  outq := []
  timer := 0

/-- ADV at reset; `a_r1`, `a_r2`, `a_profile` have no reset value in the spec (DESIGN CHOICE 0, log entry 4). -/
def Adv.reset (p : Params) : Adv where
  phase := .drain
  running := false
  power := p.powerInit
  r1 := 0
  r2 := 0
  profile := ⟨[], ⟨0, 0, 0, 0, 0, 0⟩, .nonConnectable, 0⟩
  rng := p.rngSeed
  timer := 0

/-- DSP at reset. -/
def Dsp.reset : Dsp where
  phase := .drain
  lock := false
  backlight := true
  led := .default
  timer := 0

/-- The machine right after power-on reset with these parameters, in this environment (R280: nothing else survives;
log entry 16). -/
def State.powerOn (cfg : Params) (env : Env) : State where
  tga := Tga.reset
  pid := Pid.reset cfg
  adv := Adv.reset cfg
  dsp := Dsp.reset
  evbQ := []
  ctlQ := []
  sysOff := false
  startInstant := none
  cfg := cfg
  env := env

/-- The environment before anything has happened (DESIGN CHOICE, log entries 1, 14, 17, 21). -/
def Env.fresh : Env where
  inp := Inputs.quiet
  script := []
  idx := 0
  nowMs := 0
  outs := []

/-- The machine right after reset. -/
def State.reset : State := State.powerOn Config.params Env.fresh

end Sys2Proof.Machine
end

