-- ==== Sys2Proof/Machine/Operands.lean ====
section
/-! DEFINITION. Operand forms (30_encoding.md R79): how each item's operands are taken from words and registers, and how
the words EVSUB generates are put together. -/

namespace Sys2Proof.Machine

/-! ## Touch points and zones -/

/-- What TGA reads of a touch point: not `state`, not bit 33 (40_touch_arbiter.md R117, 30_encoding.md R81). -/
structure Point where
  id : TouchId
  x : Coord
  y : Coord
deriving DecidableEq, Repr, Inhabited

/-- The position of a point. -/
def Point.pos (p : Point) : Pos := ⟨p.x, p.y⟩

/-- The point of a `TP` word (R71). -/
def pointOf (w : TpWord) : Point := ⟨w.id, w.x, w.y⟩

/-- The points of a sample frame in list order (R72): `count` is bits 73:72, `p0` bits 71:36, `p1` bits 35:0; entries
beyond `count` are ignored, and `count` = 3 counts as 2 (R81). -/
def framePoints (sf : SfWord) : List TpWord :=
  let count : BitVec 2 := sf.extractLsb' 72 2
  let p0 : TpWord := sf.extractLsb' 36 36
  let p1 : TpWord := sf.extractLsb' 0 36
  if count = 0 then [] else if count = 1 then [p0] else [p0, p1]

/-- The sample frame of a list of points (R72). A frame cannot carry more than two; of a longer list the first two are kept and
the rest is dropped, where 93_implementation_defined.md U3 would also let a model refuse it (DESIGN CHOICE, log entry 31). -/
def encodeFrame : List TpWord → SfWord
  | [] => 0
  | [p0] => (1 : BitVec 2) ++ p0 ++ (0 : TpWord)
  | p0 :: p1 :: _ => (2 : BitVec 2) ++ p0 ++ p1

/-- `in_gesture`: `y < 240` (40_touch_arbiter.md R101). Every other point is a button point. -/
def inGesture (y : Coord) : Bool := decide (y.toNat < Config.ySplit.toNat)

/-- `keyzone` (R102): the key band of an x coordinate, none for `x >= 320`. -/
def keyzone (x : Coord) : Option Key :=
  if x.toNat < Config.xLeftEnd.toNat then some .left
  else if x.toNat < Config.xCenterEnd.toNat then some .center
  else if x.toNat < Config.xRightEnd.toNat then some .right
  else none

/-! ## The event words EVSUB generates (30_encoding.md R73, R74): absent fields are 0 -/

/-- The fields of a pointer event at a position; `button` is `PRIMARY` = 0. -/
def posFields (p : Pos) : WindowFields := ⟨0, 0, 0, p.x, p.y⟩
/-- The fields of a key event. -/
def keyFields (k : Key) : WindowFields := ⟨0, k.code, 0, 0, 0⟩

def pointerPressed (p : Pos) : EvWord := encodeWindow 0 (posFields p)
def pointerMoved (p : Pos) : EvWord := encodeWindow 1 (posFields p)
def pointerReleased (p : Pos) : EvWord := encodeWindow 2 (posFields p)
def pointerExited : EvWord := encodeWindow 3 ⟨0, 0, 0, 0, 0⟩
def keyPressed (k : Key) : EvWord := encodeWindow 4 (keyFields k)
def keyReleased (k : Key) : EvWord := encodeWindow 5 (keyFields k)
/-- The event of status bit (`reg`, `bit`). -/
def pmuEvent (reg bit : BitVec 3) : EvWord := encodePmu 0 reg bit

/-! ## PMU status (30_encoding.md R76, 41_pmu_decoder.md R144, R145) -/

/-- The status bytes of a frame, register index 0 first. -/
def statusBytes (nreg : Nat) (ps : PsWord) : List Byte :=
  (List.range nreg).map fun r => ps.extractLsb' (Config.pmuRegW * r) 8

/-- `masked[r] = p_stat[r] & PMU_MASK[r]` (R144). -/
def maskedByte (cfg : Params) (stat : List Byte) (r : Nat) : Byte :=
  stat.getD r 0 &&& cfg.pmuMask.getD r 0

/-- The events of one register, bit 0 first (92 D8). -/
def decodeRegister (masked : Byte) (r : Nat) : List EvWord :=
  ((List.range Config.pmuRegW).filter fun b => masked.getLsbD b).map fun b => pmuEvent (BitVec.ofNat 3 r) (BitVec.ofNat 3 b)

/-- `pid_decode` (R145): one event per remaining set bit, in register order. -/
def pidDecode (cfg : Params) (stat : List Byte) : List EvWord :=
  (List.range cfg.pmuNreg).flatMap fun r => decodeRegister (maskedByte cfg stat r) r

/-! ## The advertising profile (42_adv_randomizer.md R168 to R171) -/

/-- The payload: bit 0 of the first draw chooses the pool, the rest of it the entry (R168). -/
def choosePayload (cfg : Params) (r1 : Draw) : List Byte :=
  let pool := if r1.getLsbD 0 then cfg.poolShort else cfg.poolLong
  pool.getD ((r1 >>> 1).toNat % pool.length) []

/-- The address from bytes of both draws, the two top bits of `addr[0]` forced to 1 (R169). -/
def chooseAddress (r1 r2 : Draw) : Address where
  b0 := r1.extractLsb' 24 8 ||| 0xC0
  b1 := r1.extractLsb' 16 8
  b2 := r1.extractLsb' 8 8
  b3 := r1.extractLsb' 0 8
  b4 := r2.extractLsb' 24 8
  b5 := r2.extractLsb' 16 8

/-- The connectable mode: bit 0 of the second draw (R170). -/
def chooseMode (r2 : Draw) : AdvMode := AdvMode.ofBit (r2.extractLsb' 0 1)

/-- The power step `min(a_power, 7)` (R171). -/
def powerStep (power : BitVec 3) : BitVec 3 := BitVec.ofNat 3 (min power.toNat (Config.advPowerSteps - 1))

/-- The profile of one cycle. -/
def synthProfile (cfg : Params) (power : BitVec 3) (r1 r2 : Draw) : Profile where
  payload := choosePayload cfg r1
  addr := chooseAddress r1 r2
  mode := chooseMode r2
  step := powerStep power

/-- One shift of the reference generator (R178). -/
def lfsrShift (g : Draw) : Draw :=
  if g.getLsbD 0 then (g >>> 1) ^^^ Config.lfsrMask else g >>> 1

/-- `n` shifts of the reference generator. -/
def lfsrShifts : Nat → Draw → Draw
  | 0, g => g
  | n + 1, g => lfsrShifts n (lfsrShift g)

/-- `Draw32()` of the reference generator: 32 shifts (R178). -/
def lfsrDraw (g : Draw) : Draw := lfsrShifts 32 g

/-! ## Faults and log words (60_exceptions.md R244, 30_encoding.md R78) -/

/-- The number of an agent in the log word (60_exceptions.md R253). -/
def agentNumber : Agent → BitVec 2
  | .tga => 0
  | .pid => 1
  | .adv => 2
  | .dsp => 3

/-- The agent that raises a fault (R244). -/
def causeAgent : FatalCause → Agent
  | .touchRead => .tga
  | .pmuRead => .pid
  | .pmuClear => .pid
  | .radioSetAddr => .adv
  | .radioSetTxpwr => .adv
  | .radioSetAdv => .adv
  | .radioStart => .adv
  | .radioStop => .adv

/-- The code of a fault (R244). -/
def causeCode : FatalCause → BitVec 4
  | .touchRead => 1
  | .pmuRead => 2
  | .pmuClear => 3
  | .radioSetAddr => 4
  | .radioSetTxpwr => 5
  | .radioSetAdv => 6
  | .radioStart => 7
  | .radioStop => 8

/-- The log word of a fatal fault: class `FATAL` = 0, agent, cause (R78). -/
def fatalLog (c : FatalCause) : LgWord := (0 : BitVec 2) ++ agentNumber (causeAgent c) ++ causeCode c

/-- The log word of a PMU event without an action: class `PMU_EVENT` = 1, reason code (R78). -/
def pmuLog (code : ReasonCode) : LgWord := (1 : BitVec 2) ++ code

end Sys2Proof.Machine
end

