-- ==== Sys2Proof/Machine/Flags.lean ====
section
/-! DEFINITION. EVSUB has no condition codes; its one-bit status flags and what sets and clears each (10_state.md R33).
Nothing else writes them. -/

namespace Sys2Proof.Machine

/-- The registers `t_active[i]`, `t_last[i]` of an id (R21). -/
def Tga.touch (t : Tga) : TouchId → PerTouch
  | .id0 => t.touch0
  | .id1 => t.touch1

/-- Writes the registers of an id. -/
def Tga.setTouch (t : Tga) (i : TouchId) (v : PerTouch) : Tga :=
  match i with
  | .id0 => { t with touch0 := v }
  | .id1 => { t with touch1 := v }

/-- `t_active[i]`. -/
def Tga.active (t : Tga) (i : TouchId) : Bool := (t.touch i).active

/-- `t_active[i] <- true ; t_last[i] <- pos`: an id is announced or has moved (40_touch_arbiter.md R106, R107). -/
def Tga.markActive (t : Tga) (i : TouchId) (pos : Pos) : Tga := t.setTouch i ⟨true, pos⟩

/-- `t_active[i] <- false`, `t_last[i]` kept: an id is released (R108). -/
def Tga.markInactive (t : Tga) (i : TouchId) : Tga := t.setTouch i ⟨false, (t.touch i).last⟩

/-- A falling edge of `tirq`: sets `tirq_pend`, with `TIRQ_LATCH = false` only in `T_WAIT` (60_exceptions.md R241). -/
def Tga.latchEdge (latch : Bool) (t : Tga) : Tga :=
  if latch || t.phase == .wait then { t with irqPend := true } else t

/-- The bit of the output register `d_led` (R30): `LED_DEFAULT` = 0, `LED_SLOW_BLINK` = 1. -/
def LedPattern.code : LedPattern → BitVec 1
  | .default => 0
  | .slowBlink => 1

/-- The bit of the output register `d_backlight` (R30): 1 = enabled. -/
def Dsp.backlightBit (d : Dsp) : BitVec 1 := if d.backlight then 1 else 0

/-- `a_running` as `START` and `STOP` set it (42_adv_randomizer.md R162, R163). -/
def Adv.setRunning (a : Adv) (v : Bool) : Adv := { a with running := v }

/-- The power-key short press: `d_lock` inverted, `d_backlight` its new complement (43_event_bus_dispatcher.md R207). -/
def Dsp.toggleLock (d : Dsp) : Dsp := { d with lock := !d.lock, backlight := d.lock }

end Sys2Proof.Machine
end

