-- ==== Sys2Proof/Machine/Ops.lean ====
section
/-! DEFINITION. The operations the meanings share: the queue operations (20_memory.md R51 to R54), the output ports, a
collaborator call, RAISING A FATAL FAULT (60_exceptions.md R245; the spec gives no return from one, R246), power-off, the
timers, the environment's choices, and which agent's step is enabled (00_scope.md R11, 60_exceptions.md R255). -/

namespace Sys2Proof.Machine

/-! ## Queues -/

/-- `Full(q)` (R51). A queue never grows past its capacity, so "at least" is "exactly" (log entry 12). -/
def queueFull {α : Type} (cap : Nat) (q : List α) : Bool := decide (cap ≤ q.length)

/-- `Push(q, m)` where it is enabled: at the tail (R52). -/
def queuePush {α : Type} (q : List α) (m : α) : List α := q ++ [m]

/-- `TryPush(q, m)`: at the tail if there is room, else `m` is discarded (R53). -/
def queueTryPush {α : Type} (cap : Nat) (q : List α) (m : α) : List α :=
  if queueFull cap q then q else queuePush q m

/-- `TryPop(q)`: the head and the rest, or nothing (R54). -/
def queueTryPop {α : Type} : List α → Option (α × List α)
  | [] => none
  | m :: rest => some (m, rest)

/-! ## Ports -/

/-- Puts one thing out at the output ports (10_state.md R39). -/
def State.output (s : State) (o : Output) : State :=
  s.setEnv { s.env with outs := s.env.outs ++ [o] }

/-- The output `backlight_en`, the bit of `d_backlight` (R30, R39). -/
def State.backlightEn (s : State) : BitVec 1 := s.dsp.backlightBit

/-- The output `led_pattern`, the bit of `d_led` (R30, R39). -/
def State.ledPattern (s : State) : BitVec 1 := s.dsp.led.code

/-- Ready at `cmd_in`: `not Full(ctl_q)` and nothing else (R52, 92 D38), so also after power-off, where up to 3 commands are
accepted and never executed (93_implementation_defined.md U14, 70_reset_and_hazards.md R290; log entry 32). -/
def State.cmdReady (s : State) : Bool := !queueFull Config.ctlCap s.ctlQ

/-! ## Fatal faults -/

/-- The halt value of an agent's phase register (R245); DSP makes no fallible call and has none (R244). -/
def haltAgent (a : Agent) (s : State) : State :=
  match a with
  | .tga => s.setTga { s.tga with phase := .halt }
  | .pid => s.setPid { s.pid with phase := .halt }
  | .adv => s.setAdv { s.adv with phase := .halt }
  | .dsp => s

/-- `raise Fatal(agent, cause)` (R245): the agent's phase takes its halt value, one `FATAL` log word is written, nothing
else. Nothing is saved and control goes nowhere. -/
def raiseFatal (c : FatalCause) (s : State) : State := (haltAgent (causeAgent c) s).output (.log (fatalLog c))

/-- A fallible call and its answer: the call is made at the port; `Err` raises the fault, `Ok` goes on (R252). -/
def callDevice (call : Call) (answer : Status) (c : FatalCause) (onOk : State → State) (s : State) : State :=
  let s1 := s.output (.call call answer)
  match answer with
  | .err => raiseFatal c s1
  | .ok => onOk s1

/-! ## Power -/

/-- The power-off action: a pulse, then `sys_off` (R256). -/
def powerOffAction (s : State) : State := (s.output .powerOff).setSysOff true

/-! ## Time -/

/-- A down-timer after `ms` milliseconds, stopping at 0 (10_state.md R40). -/
def timerAfter (ms : Nat) (t : Timer) : Timer := BitVec.ofNat 10 (t.toNat - ms)

/-- `ms` milliseconds pass: every timer counts down. Once the power is off only the environment's clock goes on. -/
def elapseTime (ms : Nat) (s : State) : State :=
  let s1 := s.setEnv { s.env with nowMs := s.env.nowMs + ms }
  if s.sysOff then s1
  else
    (((s1.setTga { s1.tga with timer := timerAfter ms s1.tga.timer }).setPid
      { s1.pid with timer := timerAfter ms s1.pid.timer }).setAdv
      { s1.adv with timer := timerAfter ms s1.adv.timer }).setDsp
      { s1.dsp with timer := timerAfter ms s1.dsp.timer }

/-- The start instant a query uses: the one taken, or now at first use (60_exceptions.md R251). -/
def State.startNow (s : State) : Nat := s.startInstant.getD s.env.nowMs

/-- An elapsed-time query: takes the start instant at first use, and answers the time since (R251). -/
def queryElapsed (s : State) : State :=
  (s.setStartInstant (some s.startNow)).output (.elapsed (s.env.nowMs - s.startNow))

/-! ## The environment's next choice -/

/-- The next choice: the script's, or a free one. -/
def State.nextChoice (s : State) : Choice :=
  match s.env.script with
  | [] => Config.environment s.env.idx
  | c :: _ => c

/-- The state once the next choice has been taken from the script, or counted as free. -/
def State.dropChoice (s : State) : State :=
  match s.env.script with
  | [] => s.setEnv { s.env with idx := s.env.idx + 1 }
  | _ :: rest => s.setEnv { s.env with script := rest }

/-- Sets what the input ports show. -/
def State.setInputs (s : State) (inp : Inputs) : State := s.setEnv { s.env with inp := inp }

/-! ## Enabled steps -/

/-- TGA is about to push and the bus has room. -/
def State.tgaPushReady (s : State) : Bool :=
  s.tga.phase == .emit && !s.tga.outq.isEmpty && !queueFull Config.evbCap s.evbQ

/-- PID is about to try a push. -/
def State.pidPushReady (s : State) : Bool := s.pid.phase == .emit && !s.pid.outq.isEmpty

/-- Whether `EVB_ARB` lets TGA push now: under `PMU_FIRST` not while PID contends (20_memory.md R62, log entry 3). -/
def State.busGrantsTga (s : State) : Bool := !(s.cfg.evbArb == .pmuFirst && s.pidPushReady)

/-- Whether `EVB_ARB` lets PID push now: under `TOUCH_FIRST` not while TGA contends. -/
def State.busGrantsPid (s : State) : Bool := !(s.cfg.evbArb == .touchFirst && s.tgaPushReady)

/-- TGA's step is enabled (40_touch_arbiter.md R103, R104, R110, R109). -/
def State.tgaEnabled (s : State) : Bool :=
  match s.tga.phase with
  | .wait => s.tga.irqPend
  | .read => true
  | .emit => s.tga.outq.isEmpty || (!queueFull Config.evbCap s.evbQ && s.busGrantsTga)
  | .sleep => s.tga.timer == 0
  | .halt => false

/-- PID's step is enabled (41_pmu_decoder.md R141 to R147). -/
def State.pidEnabled (s : State) : Bool :=
  match s.pid.phase with
  | .wait => s.env.inp.pirq
  | .read => true
  | .clear => true
  | .emit => s.pid.outq.isEmpty || s.busGrantsPid
  | .sleep => s.pid.timer == 0
  | .halt => false

/-- ADV's step is enabled (42_adv_randomizer.md R161, R166, R167, R172, R173). -/
def State.advEnabled (s : State) : Bool :=
  match s.adv.phase with
  | .drain => true
  | .idle => s.adv.timer == 0
  | .synth => true
  | .setAddr => true
  | .setPwr => true
  | .setAdv => true
  | .start => true
  | .hold => s.adv.timer == 0
  | .stop => true
  | .settle => s.adv.timer == 0
  | .term => false
  | .halt => false

/-- DSP's step is enabled (43_event_bus_dispatcher.md R204, R211, R212). -/
def State.dspEnabled (s : State) : Bool :=
  match s.dsp.phase with
  | .drain => true
  | .redraw => true
  | .sleep => s.dsp.timer == 0

/-- The agent has an enabled step: none has while `sys_off` is set (R32). -/
def State.enabled (s : State) (a : Agent) : Bool :=
  !s.sysOff &&
    match a with
    | .tga => s.tgaEnabled
    | .pid => s.pidEnabled
    | .adv => s.advEnabled
    | .dsp => s.dspEnabled

/-! ## TGA's per-point operations and release scan (40_touch_arbiter.md R106 to R108) -/

/-- `emit e` of TGA: at the tail of `t_outq` (00_scope.md R9, 10_state.md R24). -/
def Tga.emit (t : Tga) (e : EvWord) : Tga := { t with outq := t.outq ++ [e] }

/-- The claim of R106: an inactive id takes the pointer where nobody has it. -/
def Tga.claim (t : Tga) (i : TouchId) : Tga :=
  if t.pointer = none ∧ t.active i = false then { t with pointer := some i } else t

/-- Step 2 of the iteration for one gesture point (R106). -/
def Tga.gesturePoint (t : Tga) (p : Point) : Tga :=
  let t1 := t.claim p.id
  if t1.pointer ≠ some p.id then t1
  else if (t1.touch p.id).last = p.pos then t1
  else
    let e := if t1.active p.id then pointerMoved p.pos else pointerPressed p.pos
    (t1.emit e).markActive p.id p.pos

/-- Step 3 of the iteration for one button point (R107). -/
def Tga.buttonPoint (t : Tga) (p : Point) : Tga :=
  if t.pointer = some p.id then t
  else if t.active p.id then t
  else
    match keyzone p.x with
    | none => t
    | some k => (t.emit (keyPressed k)).markActive p.id p.pos

/-- One touch point, by its zone (R101). -/
def Tga.visitPoint (t : Tga) (p : Point) : Tga :=
  if inGesture p.y then t.gesturePoint p else t.buttonPoint p

/-- The release of one active id (R108). Its key is never `NoKey` in a state a run reaches (R108 (b)); elsewhere no event
is emitted (log entry 11). -/
def Tga.releaseId (t : Tga) (i : TouchId) : Tga :=
  let t1 := t.markInactive i
  if t.pointer = some i then
    { ((t1.emit (pointerReleased (t.touch i).last)).emit pointerExited) with pointer := none }
  else
    match keyzone (t.touch i).last.x with
    | none => t1
    | some k => t1.emit (keyReleased k)

/-- The release scan for one id: released if active and not among the ids seen (R108). -/
def Tga.releaseIfAbsent (seen : List TouchId) (i : TouchId) (t : Tga) : Tga :=
  if t.active i && !seen.contains i then t.releaseId i else t

/-- Step 4 of the iteration, ids in the order 0, 1 (R108). -/
def Tga.releaseScan (seen : List TouchId) (t : Tga) : Tga :=
  (t.releaseIfAbsent seen .id0).releaseIfAbsent seen .id1

end Sys2Proof.Machine
end

