-- ==== Sys2Proof/Machine/Command.lean ====
section
/-! DEFINITION. The meaning of the four commands, executed by ADV after the drain has popped them (42_adv_randomizer.md
R161 to R165). -/

namespace Sys2Proof.Machine

/-- `START`: `a_running <- true` (R162). -/
def execStart (_unused _level : BitVec 3) (s : State) : Result := .next (s.setAdv (s.adv.setRunning true))

/-- `STOP`: `a_running <- false` (R163). -/
def execStop (_unused _level : BitVec 3) (s : State) : Result := .next (s.setAdv (s.adv.setRunning false))

/-- `SETPOWER`: `a_power <- level` (R164). -/
def execSetPower (_unused level : BitVec 3) (s : State) : Result := .next (s.setAdv { s.adv with power := level })

/-- `TERMINATE`: `a_phase <- A_TERM` (R165). -/
def execTerminate (_unused _level : BitVec 3) (s : State) : Result := .next (s.setAdv { s.adv with phase := .term })

end Sys2Proof.Machine
end

