-- ==== Sys2Proof/Machine/Event.lean ====
section
/-! DEFINITION. The meaning of the event words, executed by DSP after the drain has popped them
(43_event_bus_dispatcher.md R205 to R210). -/

namespace Sys2Proof.Machine

/-- The lock gate: a window word is dropped while `d_lock` is set and otherwise forwarded unchanged (R205). -/
def lockGate (w : EvWord) (s : State) : State := if s.dsp.lock then s else s.output (.uiEvent w)

/-- `EV.PTR_PRESSED` -/
def execEvPtrPressed (f : WindowFields) (s : State) : Result := .next (lockGate (encodeWindow 0 f) s)
/-- `EV.PTR_MOVED` -/
def execEvPtrMoved (f : WindowFields) (s : State) : Result := .next (lockGate (encodeWindow 1 f) s)
/-- `EV.PTR_RELEASED` -/
def execEvPtrReleased (f : WindowFields) (s : State) : Result := .next (lockGate (encodeWindow 2 f) s)
/-- `EV.PTR_EXITED` -/
def execEvPtrExited (f : WindowFields) (s : State) : Result := .next (lockGate (encodeWindow 3 f) s)
/-- `EV.KEY_PRESSED` -/
def execEvKeyPressed (f : WindowFields) (s : State) : Result := .next (lockGate (encodeWindow 4 f) s)
/-- `EV.KEY_RELEASED` -/
def execEvKeyReleased (f : WindowFields) (s : State) : Result := .next (lockGate (encodeWindow 5 f) s)

/-- The action of a reason code (R206): lock toggle (R207), slow blink (R208), power-off (R209), else a log word (R210). -/
def pmuAction (code : ReasonCode) (s : State) : State :=
  if code = s.cfg.codePekShort then s.setDsp s.dsp.toggleLock
  else if code = s.cfg.codeBatWarnL2 then s.setDsp { s.dsp with led := .slowBlink }
  else if code = s.cfg.codeBatWarnL1 then powerOffAction s
  else s.output (.log (pmuLog code))

/-- `EV.PMU`: whatever the lock says (R206). -/
def execEvPmu (_unused : BitVec 33) (reg bit : BitVec 3) (s : State) : Result := .next (pmuAction (reg ++ bit) s)

end Sys2Proof.Machine
end

