-- ==== Sys2Proof/Machine/Radio.lean ====
section
/-! DEFINITION. The meaning of the radio operations, issued by ADV and answered by the radio (42_adv_randomizer.md R172,
R173): the call is made at the radio port; `Ok` moves ADV on, `Err` raises its fatal fault (R174). -/

namespace Sys2Proof.Machine

/-- The call of a radio operation, answered by what the radio port shows. -/
def callRadio (op : RadioOp) (c : FatalCause) (onOk : Adv → Adv) (s : State) : State :=
  callDevice (.radio op) s.env.inp.radio c (fun s1 => s1.setAdv (onOk s1.adv)) s

/-- `RO.SET_ADDR` -/
def execRoSetAddr (addr : Address) (s : State) : Result :=
  .next (callRadio (.setAddr addr) .radioSetAddr (fun a => { a with phase := .setPwr }) s)

/-- `RO.SET_TXPWR` -/
def execRoSetTxpwr (step : BitVec 3) (s : State) : Result :=
  .next (callRadio (.setTxpwr step) .radioSetTxpwr (fun a => { a with phase := .setAdv }) s)

/-- `RO.SET_ADV` -/
def execRoSetAdv (mode : AdvMode) (payload : List Byte) (s : State) : Result :=
  .next (callRadio (.setAdv mode payload) .radioSetAdv (fun a => { a with phase := .start }) s)

/-- `RO.START_ADV`: the on-air window begins. -/
def execRoStartAdv (s : State) : Result :=
  .next (callRadio .startAdv .radioStart (fun a => { a with timer := Config.advHoldMs, phase := .hold }) s)

/-- `RO.STOP_ADV`: the settle delay begins. -/
def execRoStopAdv (s : State) : Result :=
  .next (callRadio .stopAdv .radioStop (fun a => { a with timer := s.cfg.settleMs, phase := .settle }) s)

end Sys2Proof.Machine
end

