-- ==== Sys2Proof/Machine/Touch.lean ====
section
/-! DEFINITION. The meaning of the touch point items, the visit of one point of a sample (40_touch_arbiter.md R106, R107).
`state` and bit 33 are never read (R117, 30_encoding.md R81), so the three are alike. The marking, the order of the visits
and the release scan belong to the whole sample and stand in Tga.lean. -/

namespace Sys2Proof.Machine

/-- The visit of one point, on the machine. -/
def visitTouchPoint (p : Point) (s : State) : State := s.setTga (s.tga.visitPoint p)

/-- `TP.PRESSED` -/
def execTpPressed (_z : BitVec 1) (id : TouchId) (x y : Coord) (s : State) : Result :=
  .next (visitTouchPoint ⟨id, x, y⟩ s)

/-- `TP.RELEASED` -/
def execTpReleased (_z : BitVec 1) (id : TouchId) (x y : Coord) (s : State) : Result :=
  .next (visitTouchPoint ⟨id, x, y⟩ s)

/-- `TP.MOVED` -/
def execTpMoved (_z : BitVec 1) (id : TouchId) (x y : Coord) (s : State) : Result :=
  .next (visitTouchPoint ⟨id, x, y⟩ s)

end Sys2Proof.Machine
end

