-- ==== Sys2Proof/Machine/Dispatch.lean ====
section
/-! DEFINITION. The meaning of every item, one arm for each row of the opcode table. -/

namespace Sys2Proof.Machine

def exec (i : Instr) (s : State) : Host.Outcome State Fault Refusal :=
  match i with
  | .tpPressed z id x y => Sys2Proof.Machine.execTpPressed z id x y s
  | .tpReleased z id x y => Sys2Proof.Machine.execTpReleased z id x y s
  | .tpMoved z id x y => Sys2Proof.Machine.execTpMoved z id x y s
  | .start unused level => Sys2Proof.Machine.execStart unused level s
  | .stop unused level => Sys2Proof.Machine.execStop unused level s
  | .setPower unused level => Sys2Proof.Machine.execSetPower unused level s
  | .terminate unused level => Sys2Proof.Machine.execTerminate unused level s
  | .evPtrPressed f => Sys2Proof.Machine.execEvPtrPressed f s
  | .evPtrMoved f => Sys2Proof.Machine.execEvPtrMoved f s
  | .evPtrReleased f => Sys2Proof.Machine.execEvPtrReleased f s
  | .evPtrExited f => Sys2Proof.Machine.execEvPtrExited f s
  | .evKeyPressed f => Sys2Proof.Machine.execEvKeyPressed f s
  | .evKeyReleased f => Sys2Proof.Machine.execEvKeyReleased f s
  | .evPmu unused reg bit => Sys2Proof.Machine.execEvPmu unused reg bit s
  | .roSetAddr addr => Sys2Proof.Machine.execRoSetAddr addr s
  | .roSetTxpwr step => Sys2Proof.Machine.execRoSetTxpwr step s
  | .roSetAdv mode payload => Sys2Proof.Machine.execRoSetAdv mode payload s
  | .roStartAdv => Sys2Proof.Machine.execRoStartAdv s
  | .roStopAdv => Sys2Proof.Machine.execRoStopAdv s

end Sys2Proof.Machine
end

