-- ==== Sys2Proof/Machine/Adv.lean ====
section
/-! DEFINITION. The steps of the Advertisement Randomizer, one for each phase (42_adv_randomizer.md R161 to R173). -/

namespace Sys2Proof.Machine

/-- The end of the drain: a cycle if running, else the idle backoff (R161). -/
def advDrainEnd (s : State) : State :=
  if s.adv.running then s.setAdv { s.adv with phase := .synth }
  else s.setAdv { s.adv with timer := Config.advIdleMs, phase := .idle }

/-- The drain: one command is popped and executed, or the drain ends (R161). -/
def advDrain (s : State) : Result :=
  match queueTryPop s.ctlQ with
  | none => .next (advDrainEnd s)
  | some (w, rest) =>
    match decode (.cc w) with
    | .ok i => exec i (s.setCtlQ rest)
    | .error _ => .next (s.setCtlQ rest)

/-- The two draws of a cycle and the generator's state after them: the environment's draws, or the reference generator's
(R167, R177, R178). -/
def advDraws (s : State) : Draw × Draw × Draw :=
  match s.cfg.rngMode with
  | .oracle => (s.env.inp.draw1, s.env.inp.draw2, s.adv.rng)
  | .lfsr32 => (lfsrDraw s.adv.rng, lfsrDraw (lfsrDraw s.adv.rng), lfsrDraw (lfsrDraw s.adv.rng))

/-- The draws and the profile (R167 to R171). -/
def advSynth (s : State) : State :=
  let (r1, r2, g) := advDraws s
  s.setAdv { s.adv with
    r1 := r1
    r2 := r2
    rng := g
    profile := synthProfile s.cfg s.adv.power r1 r2
    phase := .setAddr }

/-- The radio operation each phase issues, its operands from `a_profile` (R172, R173). -/
def Adv.issued (a : Adv) : Option Instr :=
  match a.phase with
  | .setAddr => some (.roSetAddr a.profile.addr)
  | .setPwr => some (.roSetTxpwr a.profile.step)
  | .setAdv => some (.roSetAdv a.profile.mode a.profile.payload)
  | .start => some .roStartAdv
  | .stop => some .roStopAdv
  | .drain => none
  | .idle => none
  | .synth => none
  | .hold => none
  | .settle => none
  | .term => none
  | .halt => none

/-- Issues the phase's radio operation. -/
def advIssue (s : State) : Result :=
  match s.adv.issued with
  | some i => exec i s
  | none => .next s

/-- ADV's step, where it is enabled. -/
def advStep (s : State) : Result :=
  match s.adv.phase with
  | .drain => advDrain s
  | .idle => .next (s.setAdv { s.adv with phase := .drain })
  | .synth => .next (advSynth s)
  | .setAddr => advIssue s
  | .setPwr => advIssue s
  | .setAdv => advIssue s
  | .start => advIssue s
  | .hold => .next (s.setAdv { s.adv with phase := .stop })
  | .stop => advIssue s
  | .settle => .next (s.setAdv { s.adv with phase := .drain })
  | .term => .next s
  | .halt => .next s

end Sys2Proof.Machine
end

