-- ==== Sys2Proof/Machine/Dsp.lean ====
section
/-! DEFINITION. The steps of the Dispatcher, one for each phase (43_event_bus_dispatcher.md R204, R211, R212). -/

namespace Sys2Proof.Machine

/-- The execution of a popped word. A word with `tag` 0 and a reserved kind is no item of the table; the lock gate
forwards or drops it like any window word (30_encoding.md R81). -/
def dspHandle (w : EvWord) (s : State) : Result :=
  match decode (.ev w) with
  | .ok i => exec i s
  | .error _ => .next (lockGate w s)

/-- The drain: one word is popped and handled, or the drain ends (R204). -/
def dspDrain (s : State) : Result :=
  match queueTryPop s.evbQ with
  | none => .next (s.setDsp { s.dsp with phase := .redraw })
  | some (w, rest) => dspHandle w (s.setEvbQ rest)

/-- Redraw if there is damage, then the frame sleep (R211). -/
def dspRedraw (s : State) : State :=
  let s1 := if s.env.inp.uiDamage then s.output .redraw else s
  s1.setDsp { s1.dsp with
    timer := if s1.env.inp.uiAnim then Config.dspAnimMs else Config.dspIdleMs
    phase := .sleep }

/-- DSP's step, where it is enabled. -/
def dspStep (s : State) : Result :=
  match s.dsp.phase with
  | .drain => dspDrain s
  | .redraw => .next (dspRedraw s)
  | .sleep => .next (s.setDsp { s.dsp with phase := .drain })

end Sys2Proof.Machine
end

