-- ==== Sys2Proof/Machine/Pid.lean ====
section
/-! DEFINITION. The steps of the PMU Interrupt Decoder, one for each phase (41_pmu_decoder.md R141 to R148). -/

namespace Sys2Proof.Machine

/-- Status read (R142). -/
def pidRead (s : State) : State :=
  match s.env.inp.pmuRead with
  | .err => raiseFatal .pmuRead (s.output (.call .pmuRead .err))
  | .ok ps =>
    let s1 := s.output (.call .pmuRead .ok)
    s1.setPid { s1.pid with stat := statusBytes s1.cfg.pmuNreg ps, phase := .clear }

/-- Status clear, then decode (R143). -/
def pidClear (s : State) : State :=
  callDevice .pmuClear s.env.inp.pmuClear .pmuClear
    (fun s1 => s1.setPid { s1.pid with outq := pidDecode s1.cfg s1.pid.stat, phase := .emit }) s

/-- Best-effort send: one event a step, kept or dropped, then the guard sleep (R146). -/
def pidEmit (s : State) : State :=
  match s.pid.outq with
  | [] => s.setPid { s.pid with timer := Config.pmuGuardMs, phase := .sleep }
  | e :: rest => (s.setEvbQ (queueTryPush Config.evbCap s.evbQ e)).setPid { s.pid with outq := rest }

/-- PID's step, where it is enabled. -/
def pidStep (s : State) : State :=
  match s.pid.phase with
  | .wait => s.setPid { s.pid with phase := .read }
  | .read => pidRead s
  | .clear => pidClear s
  | .emit => pidEmit s
  | .sleep => s.setPid { s.pid with phase := .wait }
  | .halt => s

end Sys2Proof.Machine
end

