-- ==== Sys2Proof/Machine/Tga.lean ====
section
/-! DEFINITION. The steps of the Touch Gesture Arbiter, one for each phase (40_touch_arbiter.md R103 to R110). -/

namespace Sys2Proof.Machine

/-- Session start (R103). -/
def tgaSessionStart (s : State) : State :=
  s.setTga { s.tga with
    irqPend := false
    touch0 := PerTouch.init
    touch1 := PerTouch.init
    pointer := none
    phase := .read }

/-- The visit of one listed point: the item its word decodes to is executed. A word with the reserved `state` 3 is no item
of the table, and is visited like any other, since `state` is never read (30_encoding.md R81, R117). -/
def visitWord (w : TpWord) (s : State) : Result :=
  match decode (.tp w) with
  | .ok i => exec i s
  | .error _ => .next (visitTouchPoint (pointOf w) s)

/-- The visits of a list of points, in list order. -/
def visitWords : List TpWord → State → Result
  | [], s => .next s
  | w :: ws, s =>
    match visitWord w s with
    | .next s1 => visitWords ws s1
    | .fault r => .fault r
    | .refused r => .refused r

/-- The order of the visits: all gesture points, then all button points, each in list order (R106, R107, 92 D10). -/
def visitOrder (l : List TpWord) : List TpWord :=
  (l.filter fun w => inGesture w.y) ++ (l.filter fun w => !inGesture w.y)

/-- The ids the iteration marks as processed (R105). -/
def seenIds (l : List TpWord) : List TouchId := l.map fun w => w.id

/-- The end of an iteration: release scan, then the sample's emptiness, then `T_EMIT` (R104, R108). -/
def tgaFinish (l : List TpWord) (s : State) : State :=
  s.setTga { s.tga.releaseScan (seenIds l) with empty := l.isEmpty, phase := .emit }

/-- One iteration over the listed points (R104 to R108). -/
def tgaIteration (l : List TpWord) (s : State) : Result :=
  match visitWords (visitOrder l) s with
  | .next s1 => .next (tgaFinish l s1)
  | .fault r => .fault r
  | .refused r => .refused r

/-- Sample read and iteration, one atomic step (R104); a failed read is fatal (R116). -/
def tgaRead (s : State) : Result :=
  match s.env.inp.touch with
  | .err => .next (raiseFatal .touchRead (s.output (.call .touchRead .err)))
  | .ok sf => tgaIteration (framePoints sf) (s.output (.call .touchRead .ok))

/-- The send: one event a step, then the poll sleep (R110). -/
def tgaEmit (s : State) : State :=
  match s.tga.outq with
  | [] => s.setTga { s.tga with timer := Config.tgaPollMs, phase := .sleep }
  | e :: rest => (s.setEvbQ (queuePush s.evbQ e)).setTga { s.tga with outq := rest }

/-- The wake from the poll sleep, with the exit test (R109). -/
def tgaWake (s : State) : State :=
  s.setTga { s.tga with phase := if s.tga.empty then .wait else .read }

/-- TGA's step, where it is enabled. -/
def tgaStep (s : State) : Result :=
  match s.tga.phase with
  | .wait => .next (tgaSessionStart s)
  | .read => tgaRead s
  | .emit => .next (tgaEmit s)
  | .sleep => .next (tgaWake s)
  | .halt => .next s

end Sys2Proof.Machine
end

