-- ==== Sys2Proof/Machine/Moves.lean ====
section
/-! DEFINITION. What each choice of the environment does (00_scope.md R11): an agent's step, or an input arriving. An agent
whose step is not enabled waits and keeps all its state (60_exceptions.md R255). While `sys_off` is set no agent steps and
no input is taken (R256), but for a command that `ctl_q` has room for (93_implementation_defined.md U14, log entry 32). -/

namespace Sys2Proof.Machine

/-- The step of an agent that is enabled. -/
def agentStep (a : Agent) (s : State) : Result :=
  match a with
  | .tga => tgaStep s
  | .pid => .next (pidStep s)
  | .adv => advStep s
  | .dsp => dspStep s

/-- An agent is scheduled with these values at the input ports: its step if enabled, else it waits. -/
def scheduleAgent (a : Agent) (inp : Inputs) (s : State) : Result :=
  if (s.setInputs inp).enabled a then agentStep a (s.setInputs inp) else .next (s.setInputs inp)

/-- A falling edge on `tirq` (60_exceptions.md R241). -/
def touchEdgeArrives (s : State) : State :=
  if s.sysOff then s else s.setTga (s.tga.latchEdge s.cfg.tirqLatch)

/-- A command offered at `cmd_in`: pushed if the port is ready; else the handshake does not complete (20_memory.md R52). -/
def commandOffered (w : CcWord) (s : State) : State :=
  if s.cmdReady then s.setCtlQ (queuePush s.ctlQ w) else s

/-- A pulse on `ui_power_off`, taken as soon as it arrives and in any phase of DSP (R256). R256 gives this a step of its own that
belongs to DSP, and R214 says "at DSP's next step"; that the arrival and that step are one, with no other step between
them, is the model's choice (DESIGN CHOICE, log entry 34). -/
def uiPowerOffArrives (s : State) : State := if s.sysOff then s else powerOffAction s

/-- An elapsed-time query of the surrounding software (R251). -/
def elapsedQueryArrives (s : State) : State := if s.sysOff then s else queryElapsed s

/-- Power-on reset: every register takes its reset value (70_reset_and_hazards.md R280). -/
def powerOnReset (s : State) : State := State.powerOn s.cfg s.env

/-- What a choice does. -/
def move (c : Choice) (s : State) : Result :=
  match c with
  | .agent a inp => scheduleAgent a inp s
  | .touchEdge => .next (touchEdgeArrives s)
  | .command w => .next (commandOffered w s)
  | .uiPowerOff => .next (uiPowerOffArrives s)
  | .elapse ms => .next (elapseTime ms s)
  | .elapsedQuery => .next (elapsedQueryArrives s)
  | .powerOnReset => .next (powerOnReset s)

end Sys2Proof.Machine
end

