-- ==== Sys2Proof/Machine/Fetch.lean ====
section
/-! DEFINITION. Where each format's next item is fetched from, and how a word is placed there: a sample frame's first point
for TGA, the head of `ctl_q` for ADV's drain, the head of `evb_q` for DSP's drain, `a_phase` and `a_profile` for ADV's radio
operations. Each placing also schedules the agent for the very next step (log entry 9). -/

namespace Sys2Proof.Machine

/-- Puts a choice before all others. -/
def State.scheduleFirst (s : State) (c : Choice) : State :=
  s.setEnv { s.env with script := c :: s.env.script }

/-- The power is on and the agent `a` is scheduled with these inputs. -/
def State.runNext (s : State) (a : Agent) (inp : Inputs) : State :=
  (s.setSysOff false).scheduleFirst (.agent a inp)

/-- TGA is about to read a sample of this one point. -/
def placeTouch (w : TpWord) (s : State) : State :=
  (s.setTga { s.tga with phase := .read }).runNext .tga { s.env.inp with touch := .ok (encodeFrame [w]) }

/-- ADV is about to pop this command. -/
def placeCommand (w : CcWord) (s : State) : State :=
  ((s.setCtlQ (w :: s.ctlQ.drop 1)).setAdv { s.adv with phase := .drain }).runNext .adv s.env.inp

/-- DSP is about to pop this word. -/
def placeEvent (w : EvWord) (s : State) : State :=
  ((s.setEvbQ (w :: s.evbQ.drop 1)).setDsp { s.dsp with phase := .drain }).runNext .dsp s.env.inp

/-- ADV's registers where it is about to issue this radio operation; any other item leaves them alone. -/
def Adv.aboutToIssue (a : Adv) (i : Instr) : Adv :=
  match i with
  | .roSetAddr addr => { a with phase := .setAddr, profile := { a.profile with addr := addr } }
  | .roSetTxpwr step => { a with phase := .setPwr, profile := { a.profile with step := step } }
  | .roSetAdv mode payload => { a with phase := .setAdv, profile := { a.profile with mode := mode, payload := payload } }
  | .roStartAdv => { a with phase := .start }
  | .roStopAdv => { a with phase := .stop }
  | .tpPressed _ _ _ _ => a
  | .tpReleased _ _ _ _ => a
  | .tpMoved _ _ _ _ => a
  | .start _ _ => a
  | .stop _ _ => a
  | .setPower _ _ => a
  | .terminate _ _ => a
  | .evPtrPressed _ => a
  | .evPtrMoved _ => a
  | .evPtrReleased _ => a
  | .evPtrExited _ => a
  | .evKeyPressed _ => a
  | .evKeyReleased _ => a
  | .evPmu _ _ _ => a

/-- ADV is about to issue this radio operation, and the radio will accept it. -/
def placeRadio (i : Instr) (s : State) : State :=
  (s.setAdv (s.adv.aboutToIssue i)).runNext .adv { s.env.inp with radio := .ok }

/-- Places a message where its agent fetches it. A radio message that is no operation is placed nowhere. -/
def placeMessage (m : Message) (s : State) : State :=
  match m with
  | .tp w => placeTouch w s
  | .cc w => placeCommand w s
  | .ev w => placeEvent w s
  | .ro op operands =>
    match decode (.ro op operands) with
    | .ok i => placeRadio i s
    | .error _ => s

end Sys2Proof.Machine
end

