-- ==== Sys2Proof/Machine/Step.lean ====
section
/-! DEFINITION. One step of the machine: the environment's next choice, taken and carried out. -/

namespace Sys2Proof.Machine

/-- One step. It is total: a run of EVSUB has no end of its own, and after `sys_off` or in halted phases the steps go on and
change nothing of EVSUB (70_reset_and_hazards.md R295, log entry 29). -/
def step (s : State) : Host.Outcome State Fault Refusal := move s.nextChoice s.dropChoice

/-- `s` with the item whose bits are `w` placed where the very next step fetches and runs it. -/
def State.withFetchWord (s : State) (nbits w : Nat) : State :=
  match tableMessage nbits w with
  | some m => placeMessage m s
  | none => s

end Sys2Proof.Machine
end

