-- ==== Sys2Proof/Machine/Script.lean ====
section
/-! DEFINITION. The stimulus notation (30_encoding.md R83): a script is a list of lines, and the scripted environment takes
its answers from them. An agent steps only where a line says so, and a step whose answer is not scripted yet is not
enabled. Built on `move`, the same function the machine's step uses. -/

namespace Sys2Proof.Machine

/-- One line of a script. A sample and a status frame are given as words; a radio operation by its code. -/
inductive ScriptLine where
  /-- `TIRQ` -/
  | tirq
  /-- `SAMPLE [p, ...]`; of more than two points the first two are the sample (DESIGN CHOICE, log entry 31) -/
  | sample (points : List TpWord)
  /-- `SAMPLE ERR` -/
  | sampleErr
  /-- `PIRQ b0 b1 ...`; a missing byte is 0 (DESIGN CHOICE, log entry 33) -/
  | pirq (status : List Byte)
  /-- `PIRQ ERR`: the status read fails (95_test_vectors.md V43) -/
  | pirqErr
  /-- `CMD c` -/
  | cmd (w : CcWord)
  /-- `RAND v` -/
  | rand (v : Draw)
  /-- `RADIO ERR op` -/
  | radioErr (op : BitVec 3)
  /-- `TICK damage=B anim=B` -/
  | tick (damage anim : Bool)
  /-- `UIOFF`; the power goes off at this line, with no `STEP`, `RUN` or `TICK` of DSP (DESIGN CHOICE, log entry 34) -/
  | uiOff
  /-- `STEP A` -/
  | step (a : Agent)
  /-- `RUN A` -/
  | run (a : Agent)
deriving DecidableEq, Repr

/-- The answers scripted and not used yet, in the order written; and whether the PMU line still stands for a status that
was read and not cleared. -/
structure ScriptPorts where
  samples : List (Reply SfWord)
  statuses : List (Reply PsWord)
  lineHeld : Bool
  draws : List Draw
  radioErrs : List (BitVec 3)
  /-- the words whose senders wait at `cmd_in` for room, oldest first (20_memory.md R52) -/
  waiting : List CcWord
deriving DecidableEq, Repr

/-- Nothing scripted. -/
def ScriptPorts.none : ScriptPorts := ⟨[], [], false, [], [], []⟩

/-- A status frame of the bytes given, register 0 first. R83 bounds the list by nothing, while a frame has one byte for each
register (R76): a register with no byte reads as 0, and bytes beyond the registers are not read (DESIGN CHOICE, log entry 33). -/
def statusFrame (bytes : List Byte) : PsWord :=
  bytes.foldr (fun b acc => acc <<< 8 ||| b.setWidth 64) 0

/-- The code of the radio operation ADV is about to issue. -/
def Adv.issuedCode (a : Adv) : Option (BitVec 3) :=
  match a.phase with
  | .setAddr => some 0
  | .setPwr => some 1
  | .setAdv => some 2
  | .start => some 3
  | .stop => some 4
  | .drain => Option.none
  | .idle => Option.none
  | .synth => Option.none
  | .hold => Option.none
  | .settle => Option.none
  | .term => Option.none
  | .halt => Option.none

/-- What the scripted ports show TGA, and what is left; nothing where it would read a sample not scripted. -/
def scriptTga (s : State) (e : ScriptPorts) : Option (Inputs × ScriptPorts) :=
  match s.tga.phase, e.samples with
  | .read, [] => Option.none
  | .read, r :: rest => some ({ Inputs.quiet with touch := r }, { e with samples := rest })
  | _, _ => some (Inputs.quiet, e)

/-- What the scripted ports show PID: the line is asserted while a status is unused or was read and not cleared. -/
def scriptPid (s : State) (e : ScriptPorts) : Option (Inputs × ScriptPorts) :=
  let line := { Inputs.quiet with pirq := !e.statuses.isEmpty || e.lineHeld }
  match s.pid.phase, e.statuses with
  | .read, [] => Option.none
  | .read, r :: rest => some ({ line with pmuRead := r }, { e with statuses := rest, lineHeld := true })
  | .clear, _ => some (line, { e with lineHeld := false })
  | _, _ => some (line, e)

/-- What the scripted ports show ADV: two draws in the synthesis, and `Err` where one is scripted for the operation. -/
def scriptAdv (s : State) (e : ScriptPorts) : Option (Inputs × ScriptPorts) :=
  match s.adv.phase, s.cfg.rngMode, e.draws with
  | .synth, .oracle, d1 :: d2 :: rest =>
    some ({ Inputs.quiet with draw1 := d1, draw2 := d2 }, { e with draws := rest })
  | .synth, .oracle, _ => Option.none
  | _, _, _ =>
    match s.adv.issuedCode with
    | some op =>
      if e.radioErrs.contains op then
        some ({ Inputs.quiet with radio := .err }, { e with radioErrs := e.radioErrs.erase op })
      else some (Inputs.quiet, e)
    | Option.none => some (Inputs.quiet, e)

/-- What the scripted ports show DSP: the two answers of a `TICK`, without which the redraw step is not enabled. -/
def scriptDsp (ui : Option (Bool × Bool)) (s : State) (e : ScriptPorts) : Option (Inputs × ScriptPorts) :=
  match s.dsp.phase, ui with
  | .redraw, Option.none => Option.none
  | _, some (damage, anim) => some ({ Inputs.quiet with uiDamage := damage, uiAnim := anim }, e)
  | _, Option.none => some (Inputs.quiet, e)

/-- What the scripted ports show an agent. -/
def scriptInputs (a : Agent) (ui : Option (Bool × Bool)) (s : State) (e : ScriptPorts) : Option (Inputs × ScriptPorts) :=
  match a with
  | .tga => scriptTga s e
  | .pid => scriptPid s e
  | .adv => scriptAdv s e
  | .dsp => scriptDsp ui s e

/-- The agent is in a sleep phase. -/
def State.sleeping (s : State) (a : Agent) : Bool :=
  match a with
  | .tga => s.tga.phase == .sleep
  | .pid => s.pid.phase == .sleep
  | .adv => s.adv.phase == .idle || s.adv.phase == .hold || s.adv.phase == .settle
  | .dsp => s.dsp.phase == .sleep

/-- The agent's timer has run out. -/
def State.timerRunOut (s : State) (a : Agent) : State :=
  match a with
  | .tga => s.setTga { s.tga with timer := 0 }
  | .pid => s.setPid { s.pid with timer := 0 }
  | .adv => s.setAdv { s.adv with timer := 0 }
  | .dsp => s.setDsp { s.dsp with timer := 0 }

/-- The words of waiting senders enter `ctl_q`, oldest first, while the port is ready (R52); what is left still waits. -/
def admitCommands : List CcWord → State → State × List CcWord
  | [], s => (s, [])
  | w :: ws, s => if s.cmdReady then admitCommands ws (commandOffered w s) else (s, w :: ws)

/-- The waiting commands that there is room for are taken. That this happens at once, after the very step that makes the room,
is the model's choice (DESIGN CHOICE, log entry 28). -/
def scriptAdmit (s : State) (e : ScriptPorts) : State × ScriptPorts :=
  ((admitCommands e.waiting s).1, { e with waiting := (admitCommands e.waiting s).2 })

/-- One atomic step of an agent under the script; nothing where it has no enabled step. -/
def scriptStep (a : Agent) (ui : Option (Bool × Bool)) (s : State) (e : ScriptPorts) : Option (State × ScriptPorts) :=
  let s0 := if s.sleeping a then s.timerRunOut a else s
  match scriptInputs a ui s0 e with
  | Option.none => Option.none
  | some (inp, e1) =>
    if (s0.setInputs inp).enabled a then
      match move (.agent a inp) s0 with
      | .next s1 => some (scriptAdmit s1 e1)
      | .fault _ => Option.none
      | .refused _ => Option.none
    else Option.none

/-- `RUN A`: steps until the agent has just entered a sleep phase or has no enabled step, at most `fuel` of them. -/
def scriptRun (a : Agent) (ui : Option (Bool × Bool)) : Nat → State → ScriptPorts → State × ScriptPorts
  | 0, s, e => (s, e)
  | fuel + 1, s, e =>
    match scriptStep a ui s e with
    | Option.none => (s, e)
    | some (s1, e1) => if s1.sleeping a then (s1, e1) else scriptRun a ui fuel s1 e1

/-- More steps than any agent takes between two sleeps with its queues full, `8 * 8` PMU events and a cycle's phases, and one
for each waiting command (log entry 28). -/
def scriptFuel (e : ScriptPorts) : Nat := 100 + e.waiting.length

/-- An input line: the choice it stands for. -/
def scriptChoice (c : Choice) (s : State) (e : ScriptPorts) : State × ScriptPorts :=
  match move c s with
  | .next s1 => (s1, e)
  | .fault _ => (s, e)
  | .refused _ => (s, e)

/-- One line. A `CMD` word that finds `ctl_q` full is not lost: its sender waits (R52, 70_reset_and_hazards.md R290), the script
goes on, and the word enters as soon as there is room (DESIGN CHOICE, log entry 28). -/
def scriptLine (l : ScriptLine) (s : State) (e : ScriptPorts) : State × ScriptPorts :=
  match l with
  | .tirq => scriptChoice .touchEdge s e
  | .sample points => (s, { e with samples := e.samples ++ [.ok (encodeFrame points)] })
  | .sampleErr => (s, { e with samples := e.samples ++ [.err] })
  | .pirq status => (s, { e with statuses := e.statuses ++ [.ok (statusFrame status)] })
  | .pirqErr => (s, { e with statuses := e.statuses ++ [.err] })
  | .cmd w => scriptAdmit s { e with waiting := e.waiting ++ [w] }
  | .rand v => (s, { e with draws := e.draws ++ [v] })
  | .radioErr op => (s, { e with radioErrs := e.radioErrs ++ [op] })
  | .tick damage anim => scriptRun .dsp (some (damage, anim)) (scriptFuel e) s e
  | .uiOff => scriptChoice .uiPowerOff s e
  | .step a => (scriptStep a Option.none s e).getD (s, e)
  | .run a => scriptRun a Option.none (scriptFuel e) s e

/-- A script, line by line. It ends with its last line, whether or not every agent is then in a wait: 70_reset_and_hazards.md
R295 leaves what a finished run is to the modeller, and this is the model's choice (DESIGN CHOICE, log entry 29). -/
def scriptLines : List ScriptLine → State → ScriptPorts → State × ScriptPorts
  | [], s, e => (s, e)
  | l :: ls, s, e => scriptLines ls (scriptLine l s e).1 (scriptLine l s e).2

end Sys2Proof.Machine
end

