-- ==== Sys2Proof/Safety.lean ====
section
/-! DEFINITION. What counts as a good state, in the terms the statements use: the bounds, laws and invariants the spec
states over the state (10_state.md R35, 40_touch_arbiter.md R113, R114, R119, 42_adv_randomizer.md R176,
43_event_bus_dispatcher.md R207), as predicates on states. -/

namespace Sys2Proof.Machine

/-- The queues and out-queues are within their capacities (10_state.md R24, R25, R28, R29). -/
structure QueuesBounded (s : State) : Prop where
  evb : s.evbQ.length ≤ 32
  ctl : s.ctlQ.length ≤ 3
  tgaOut : s.tga.outq.length ≤ 3
  pidOut : s.pid.outq.length ≤ 8 * s.cfg.pmuNreg
  /-- an out-queue holds words only in its agent's emit phase -/
  tgaOutPhase : s.tga.outq ≠ [] → s.tga.phase = .emit
  pidOutPhase : s.pid.outq ≠ [] → s.pid.phase = .emit
  /-- one status byte per register -/
  stat : s.pid.stat.length = s.cfg.pmuNreg

/-- No touch id is active. -/
def NoneActive (t : Tga) : Prop := t.active .id0 = false ∧ t.active .id1 = false

/-- What holds of TGA's registers at every moment of a run (R108 (b), R109, R113, R114). -/
structure TouchInv (t : Tga) : Prop where
  /-- no contact is announced while TGA waits for an interrupt -/
  waitIdle : t.phase = .wait → NoneActive t
  /-- after an empty sample no contact is announced -/
  emptyIdle : t.empty = true → t.phase = .emit ∨ t.phase = .sleep → NoneActive t
  /-- an announced contact that is not the pointer has the key of its recorded position -/
  keyKnown : ∀ i, t.active i = true → t.pointer ≠ some i → (keyzone (t.touch i).last.x).isSome = true

/-- The backlight is on exactly while the screen is not locked (R207). -/
def BacklightFollowsLock (s : State) : Prop := s.dsp.backlight = !s.dsp.lock

/-- The two top bits of the first byte are 1 (R176). -/
def Address.masked (a : Address) : Prop := a.b0 &&& 0xC0 = 0xC0

/-- ADV is between its synthesis and the end of the cycle. -/
def APhase.inCycle : APhase → Bool
  | .setAddr => true
  | .setPwr => true
  | .setAdv => true
  | .start => true
  | .hold => true
  | .stop => true
  | .settle => true
  | .drain => false
  | .idle => false
  | .synth => false
  | .term => false
  | .halt => false

/-- Every address that has left the radio port, and the one of the cycle in progress, is masked; the payloads are pool
entries; so is what ADV is about to issue (R168, R176). -/
structure RadioInv (s : State) : Prop where
  addrOut : ∀ a r, Output.call (.radio (.setAddr a)) r ∈ s.env.outs → Address.masked a
  payloadOut : ∀ m p r, Output.call (.radio (.setAdv m p)) r ∈ s.env.outs → p ∈ s.cfg.poolLong ∨ p ∈ s.cfg.poolShort
  addrNow : s.adv.phase.inCycle = true → Address.masked s.adv.profile.addr
  payloadNow : s.adv.phase.inCycle = true →
    s.adv.profile.payload ∈ s.cfg.poolLong ∨ s.adv.profile.payload ∈ s.cfg.poolShort

/-- Whether the radio is on air, by the operations it has accepted: the last `START_ADV` or `STOP_ADV` decides. -/
def onAir (outs : List Output) : Bool :=
  outs.foldl (fun on o =>
    match o with
    | .call (.radio .startAdv) .ok => true
    | .call (.radio .stopAdv) .ok => false
    | _ => on) false

/-- The radio is on air exactly in ADV's hold and just after it, unless a fault halted ADV (R165, R173, R174). -/
def OnAirInHold (s : State) : Prop :=
  s.adv.phase = .halt ∨ onAir s.env.outs = (s.adv.phase == .hold || s.adv.phase == .stop)

/-- A window word as TGA generates it: it decodes to a well-formed window item. -/
def WindowWord (w : EvWord) : Prop := w.tag = false ∧ ∃ i, decode (.ev w) = .ok i ∧ i.wf = true

/-- A PMU word as PID generates it: canonical, of a register the PMU has, with its bit kept by the mask. -/
def PmuWord (cfg : Params) (w : EvWord) : Prop :=
  ∃ r b : Nat, r < cfg.pmuNreg ∧ b < 8 ∧ (cfg.pmuMask.getD r 0).getLsbD b = true
    ∧ w = encodePmu 0 (BitVec.ofNat 3 r) (BitVec.ofNat 3 b)

/-- Every word on its way to DSP is one TGA or PID generates (30_encoding.md R81). -/
structure BusInv (s : State) : Prop where
  tgaOut : ∀ w ∈ s.tga.outq, WindowWord w
  pidOut : ∀ w ∈ s.pid.outq, PmuWord s.cfg w
  bus : ∀ w ∈ s.evbQ, WindowWord w ∨ PmuWord s.cfg w

/-- A timer runs only in its agent's sleep phases, and never above the delay of R250 for the phase (for DSP the longer of its
two). -/
structure TimersBounded (s : State) : Prop where
  tga : s.tga.timer ≠ 0 → s.tga.phase = .sleep
  tgaMax : s.tga.timer.toNat ≤ 20
  pid : s.pid.timer ≠ 0 → s.pid.phase = .sleep
  pidMax : s.pid.timer.toNat ≤ 50
  adv : s.adv.timer ≠ 0 → s.adv.phase = .idle ∨ s.adv.phase = .hold ∨ s.adv.phase = .settle
  advIdleMax : s.adv.phase = .idle → s.adv.timer.toNat ≤ 500
  advHoldMax : s.adv.phase = .hold → s.adv.timer.toNat ≤ 1000
  advSettleMax : s.adv.phase = .settle → s.adv.timer.toNat ≤ s.cfg.settleMs.toNat
  dsp : s.dsp.timer ≠ 0 → s.dsp.phase = .sleep
  dspMax : s.dsp.timer.toNat ≤ 50

/-- How many words of a list are window events of this kind. -/
def countKind (k : BitVec 3) (l : List EvWord) : Nat := l.countP fun w => !w.tag && w.kind == k

/-- How many touch ids are active. -/
def activeCount (t : Tga) : Nat := (t.active .id0).toNat + (t.active .id1).toNat

/-- The state an agent's step starts from: the choice taken, the inputs at the ports. -/
def State.begin (s : State) (inp : Inputs) : State := s.dropChoice.setInputs inp

end Sys2Proof.Machine
end

