-- ==== Sys2Proof/Certificates/Slice0/Obligations.lean ====
section
/-! DEFINITION. The statements for the provers. Each quotes in its docstring the rule it comes from. An equation of the form
`exec i s = .next t` says the whole effect: every register that the right side does not name is unchanged. A statement
about every state holds for every value of the OPEN parameters (`s.cfg`), of the environment's answers and of the
schedule. `s.begin inp` is the state an agent's step starts from: the choice taken, `inp` at the input ports (the model's
own fields, log entry 1); every register of the spec is as in `s`. That an agent that cannot step waits in a step of its own
is the model's choice too (log entry 13), and so is the list of outputs (log entry 14). -/

open Sys2Proof Sys2Proof.Machine

/-! ## Encoding -/

/-- Decoding the message of an item gives the item back, with every operand at every value (30_encoding.md R71, R73, R74,
R75, R77; the operand bytes of a radio operation are the model's own, log entry 7). -/
def Obligations.DecodeEncodeRoundTrip : Prop :=
  ∀ i : Instr, decode (encode i) = .ok i

/-- A message that decodes to an item is that item's message: no bit of a word is dropped (R71, R73 to R75; the operand
bytes of a radio operation are the model's own, log entry 7). -/
def Obligations.EncodeOfDecodedMessage : Prop :=
  ∀ (m : Message) (i : Instr), decode m = .ok i → encode i = m

/-- Every 8-bit word decodes to one of the four commands, by `op` alone (R75, R81). -/
def Obligations.EveryCommandWordDecodes : Prop :=
  ∀ w : CcWord,
    (w.extractLsb' 3 2 = 0#2 → decode (.cc w) = .ok (.start (w.extractLsb' 5 3) (w.extractLsb' 0 3)))
    ∧ (w.extractLsb' 3 2 = 1#2 → decode (.cc w) = .ok (.stop (w.extractLsb' 5 3) (w.extractLsb' 0 3)))
    ∧ (w.extractLsb' 3 2 = 2#2 → decode (.cc w) = .ok (.setPower (w.extractLsb' 5 3) (w.extractLsb' 0 3)))
    ∧ (w.extractLsb' 3 2 = 3#2 → decode (.cc w) = .ok (.terminate (w.extractLsb' 5 3) (w.extractLsb' 0 3)))

/-- The messages that are no item. Words: exactly the reserved encodings, touch state 3, and tag 0 with kind 6 or 7; every
command word is an item (R71, R73, R75). Radio messages: a code above 4 (R77), and, by the operand bytes the model has chosen
(log entry 7), a code 0 to 4 with operands of another shape. That the decoder rejects all these by name, while the
agents execute the words as R81 says, is the model's reading (log entry 10). -/
def Obligations.ReservedEncodingsHaveNoItem : Prop :=
  (∀ w : TpWord, decode (.tp w) = .error .reservedTouchState ↔ w.extractLsb' 34 2 = 3#2)
  ∧ (∀ w : TpWord, w.extractLsb' 34 2 ≠ 3#2 → ∃ i, decode (.tp w) = .ok i)
  ∧ (∀ w : EvWord, decode (.ev w) = .error .reservedEventKind ↔
      w.getLsbD 39 = false ∧ (w.extractLsb' 35 3 = 6#3 ∨ w.extractLsb' 35 3 = 7#3))
  ∧ (∀ w : EvWord, ¬ (w.getLsbD 39 = false ∧ (w.extractLsb' 35 3 = 6#3 ∨ w.extractLsb' 35 3 = 7#3)) →
      ∃ i, decode (.ev w) = .ok i)
  ∧ (∀ w : CcWord, ∃ i, decode (.cc w) = .ok i)
  ∧ (∀ (op : BitVec 3) (bytes : List Byte),
      let badOperands :=
        (op = 0#3 ∧ bytes.length ≠ 6)
        ∨ (op = 1#3 ∧ ¬ ∃ v : Byte, bytes = [v] ∧ v.toNat < 8)
        ∨ (op = 2#3 ∧ ¬ ∃ (m : Byte) (payload : List Byte), bytes = m :: payload ∧ m.toNat < 2)
        ∨ ((op = 3#3 ∨ op = 4#3) ∧ bytes ≠ [])
      (decode (.ro op bytes) = .error .reservedRadioOp ↔ 5 ≤ op.toNat)
      ∧ (decode (.ro op bytes) = .error .badRadioOperands ↔ badOperands)
      ∧ (op.toNat < 5 → ¬ badOperands → ∃ i, decode (.ro op bytes) = .ok i))

/-- Words of the spec's vectors V10, V12, V13, V14 decode to the items they stand for (95_test_vectors.md). -/
def Obligations.VectorWordsDecode : Prop :=
  decode (.tp 0x000320032) = .ok (.tpPressed 0 .id0 50 50)
  ∧ decode (.tp 0x400050005) = .ok (.tpReleased 0 .id0 5 5)
  ∧ decode (.tp 0x900150015) = .ok (.tpMoved 0 .id1 21 21)
  ∧ decode (.cc 0x08) = .ok (.stop 0 0)
  ∧ decode (.cc 0x97) = .ok (.setPower 4 7)
  ∧ decode (.cc 0xFF) = .ok (.terminate 7 7)
  ∧ decode (.ev 0x080078006E) = .ok (.evPtrMoved ⟨0, 0, 0, 120, 110⟩)
  ∧ decode (.ev 0x1800000000) = .ok (.evPtrExited ⟨0, 0, 0, 0, 0⟩)
  ∧ decode (.ev 0x2400000000) = .ok (.evKeyPressed ⟨0, 2, 0, 0, 0⟩)
  ∧ decode (.ev 0x800000000C) = .ok (.evPmu 0 1 4)

/-! ## A step runs the decoded item -/

/-- ADV in its drain pops the head of `ctl_q` and executes the command it decodes to (42_adv_randomizer.md R161). -/
def Obligations.StepRunsTheCommand : Prop :=
  ∀ (s : State) (inp : Inputs) (w : CcWord) (rest : List CcWord) (i : Instr),
    s.nextChoice = .agent .adv inp → s.sysOff = false → s.adv.phase = .drain → s.ctlQ = w :: rest →
    decode (.cc w) = .ok i →
    step s = exec i { s.begin inp with ctlQ := rest }

/-- DSP in its drain pops the head of `evb_q` and executes the event it decodes to (43_event_bus_dispatcher.md R204). -/
def Obligations.StepRunsTheEvent : Prop :=
  ∀ (s : State) (inp : Inputs) (w : EvWord) (rest : List EvWord) (i : Instr),
    s.nextChoice = .agent .dsp inp → s.sysOff = false → s.dsp.phase = .drain → s.evbQ = w :: rest →
    decode (.ev w) = .ok i →
    step s = exec i { s.begin inp with evbQ := rest }

/-- The points of a sample frame are `p0` = bits 71:36 and `p1` = bits 35:0 as far as `count` = bits 73:72 says, 3 read as 2
(30_encoding.md R72, R81). TGA in `T_READ` executes the item of each point, gesture points before button points, and then
scans for releases (40_touch_arbiter.md R104 to R108, R111; 92 D10). -/
def Obligations.StepRunsTheTouchPoints : Prop :=
  (∀ sf : SfWord,
    let count := sf.extractLsb' 72 2
    (count = 0#2 → framePoints sf = [])
    ∧ (count = 1#2 → framePoints sf = [sf.extractLsb' 36 36])
    ∧ (count = 2#2 ∨ count = 3#2 → framePoints sf = [sf.extractLsb' 36 36, sf.extractLsb' 0 36]))
  ∧ ∀ (s : State) (inp : Inputs) (sf : SfWord),
    s.nextChoice = .agent .tga inp → s.sysOff = false → s.tga.phase = .read → inp.touch = .ok sf →
    let b := (s.begin inp).output (.call .touchRead .ok)
    (∀ w i, framePoints sf = [w] → decode (.tp w) = .ok i →
      ∃ t, exec i b = .next t ∧
        step s = .next { t with tga := { t.tga.releaseScan [w.id] with empty := false, phase := .emit } })
    ∧ (∀ v w i j, framePoints sf = [v, w] → decode (.tp v) = .ok i → decode (.tp w) = .ok j →
        let vFirst := decide (v.y.toNat < 240) || !decide (w.y.toNat < 240)
        ∃ t u, exec (if vFirst then i else j) b = .next t ∧ exec (if vFirst then j else i) t = .next u ∧
          step s = .next { u with tga := { u.tga.releaseScan [v.id, w.id] with empty := false, phase := .emit } })

/-- ADV issues, in each radio phase, that phase's operation with the operands of `a_profile` (R172, R173). -/
def Obligations.StepIssuesTheRadioOperation : Prop :=
  ∀ (s : State) (inp : Inputs),
    s.nextChoice = .agent .adv inp → s.sysOff = false →
    (s.adv.phase = .setAddr → step s = exec (.roSetAddr s.adv.profile.addr) (s.begin inp))
    ∧ (s.adv.phase = .setPwr → step s = exec (.roSetTxpwr s.adv.profile.step) (s.begin inp))
    ∧ (s.adv.phase = .setAdv → step s = exec (.roSetAdv s.adv.profile.mode s.adv.profile.payload) (s.begin inp))
    ∧ (s.adv.phase = .start → step s = exec .roStartAdv (s.begin inp))
    ∧ (s.adv.phase = .stop → step s = exec .roStopAdv (s.begin inp))

/-! ## TGA -/

/-- `TP.PRESSED`, `TP.RELEASED`, `TP.MOVED` at a gesture point: claim, ownership, de-duplication, press or move, on the
machine's TGA registers and nothing else (40_touch_arbiter.md R106, R117). -/
def Obligations.GesturePointMeaning : Prop :=
  ∀ (s : State) (z : BitVec 1) (id : TouchId) (x y : Coord) (i : Instr),
    i ∈ [Instr.tpPressed z id x y, Instr.tpReleased z id x y, Instr.tpMoved z id x y] → y.toNat < 240 →
    let owns := s.tga.pointer = some id ∨ (s.tga.pointer = none ∧ s.tga.active id = false)
    (¬ owns → exec i s = .next s)
    ∧ (owns → (s.tga.touch id).last = ⟨x, y⟩ → exec i s = .next { s with tga := { s.tga with pointer := some id } })
    ∧ (owns → (s.tga.touch id).last ≠ ⟨x, y⟩ →
        let kind : BitVec 3 := if s.tga.active id then 1 else 0
        exec i s = .next { s with
          tga := Tga.setTouch { s.tga with
            pointer := some id
            outq := s.tga.outq ++ [0#1 ++ 0#1 ++ kind ++ 0#2 ++ 0#1 ++ x ++ y] } id ⟨true, ⟨x, y⟩⟩ })

/-- The three touch items at a button point: the pointer owner, an announced id and a point outside the bands are ignored;
else the key of the band is pressed and the id recorded (R107, R102). -/
def Obligations.ButtonPointMeaning : Prop :=
  ∀ (s : State) (z : BitVec 1) (id : TouchId) (x y : Coord) (i : Instr),
    i ∈ [Instr.tpPressed z id x y, Instr.tpReleased z id x y, Instr.tpMoved z id x y] → 240 ≤ y.toNat →
    (s.tga.pointer = some id ∨ s.tga.active id = true ∨ 320 ≤ x.toNat → exec i s = .next s)
    ∧ (s.tga.pointer ≠ some id → s.tga.active id = false → x.toNat < 320 →
        let key : BitVec 2 := if x.toNat < 107 then 0 else if x.toNat < 214 then 1 else 2
        exec i s = .next { s with
          tga := Tga.setTouch { s.tga with
            outq := s.tga.outq ++ [0#1 ++ 0#1 ++ 4#3 ++ key ++ 0#1 ++ 0#16 ++ 0#16] } id ⟨true, ⟨x, y⟩⟩ })

/-- A session starts on a latched edge and forgets all per-touch state; without a latched edge TGA waits in `T_WAIT` with all
its state kept (R103, 60_exceptions.md R255). That TGA scheduled while it must wait takes a step that changes nothing of EVSUB
is the model's choice (log entry 13). -/
def Obligations.SessionStarts : Prop :=
  ∀ (s : State) (inp : Inputs),
    s.nextChoice = .agent .tga inp → s.sysOff = false → s.tga.phase = .wait →
    (s.tga.irqPend = true → step s = .next { s.begin inp with
      tga := { s.tga with
        irqPend := false
        touch0 := ⟨false, ⟨0xFFFF, 0xFFFF⟩⟩
        touch1 := ⟨false, ⟨0xFFFF, 0xFFFF⟩⟩
        pointer := none
        phase := .read } })
    ∧ (s.tga.irqPend = false → step s = .next (s.begin inp))

/-- An empty sample releases every announced contact, id 0 first, the pointer with release and exit, a key with its release;
the positions are kept (R108, R104). The words are written out (30_encoding.md R73): a pointer's release carries its
recorded position, a key's release the key of the band of the recorded x. That an announced key whose recorded x is 320 or
more, in no state a run reaches, is released without an event is the model's choice (log entry 11). -/
def Obligations.EmptySampleReleasesAll : Prop :=
  ∀ (s : State) (inp : Inputs) (sf : SfWord),
    s.nextChoice = .agent .tga inp → s.sysOff = false → s.tga.phase = .read → inp.touch = .ok sf →
    sf.extractLsb' 72 2 = 0#2 →
    let released : TouchId → List EvWord := fun i =>
      let p := (s.tga.touch i).last
      let key : BitVec 2 := if p.x.toNat < 107 then 0 else if p.x.toNat < 214 then 1 else 2
      if s.tga.active i = false then []
      else if s.tga.pointer = some i then
        [0#1 ++ 0#1 ++ 2#3 ++ 0#2 ++ 0#1 ++ p.x ++ p.y, 0#1 ++ 0#1 ++ 3#3 ++ 0#2 ++ 0#1 ++ 0#16 ++ 0#16]
      else if p.x.toNat < 320 then [0#1 ++ 0#1 ++ 5#3 ++ key ++ 0#1 ++ 0#16 ++ 0#16]
      else []
    step s = .next { (s.begin inp).output (.call .touchRead .ok) with
      tga := { s.tga with
        touch0 := { s.tga.touch0 with active := false }
        touch1 := { s.tga.touch1 with active := false }
        pointer :=
          match s.tga.pointer with
          | some i => if s.tga.active i then none else some i
          | none => none
        outq := s.tga.outq ++ released .id0 ++ released .id1
        empty := true
        phase := .emit } }

/-- An announced contact that the sample does not list is released in that iteration: marked inactive at its recorded
position, with `PointerReleased` there and `PointerExited` if it was the pointer owner, who is then nobody, else with the
release of the key of the band of that position (R108). The words are written out (30_encoding.md R73). -/
def Obligations.AbsentContactIsReleased : Prop :=
  ∀ (s t : State) (inp : Inputs) (sf : SfWord) (i : TouchId),
    s.nextChoice = .agent .tga inp → s.sysOff = false → s.tga.phase = .read → inp.touch = .ok sf →
    s.tga.active i = true → (∀ w ∈ framePoints sf, w.id ≠ i) → TouchInv s.tga → step s = .next t →
    let p := (s.tga.touch i).last
    let key : BitVec 2 := if p.x.toNat < 107 then 0 else if p.x.toNat < 214 then 1 else 2
    t.tga.active i = false ∧ (t.tga.touch i).last = p
    ∧ (s.tga.pointer = some i →
        t.tga.pointer = none
        ∧ ∃ before after : List EvWord, t.tga.outq = s.tga.outq ++ before
            ++ [0#1 ++ 0#1 ++ 2#3 ++ 0#2 ++ 0#1 ++ p.x ++ p.y, 0#1 ++ 0#1 ++ 3#3 ++ 0#2 ++ 0#1 ++ 0#16 ++ 0#16] ++ after)
    ∧ (s.tga.pointer ≠ some i →
        p.x.toNat < 320
        ∧ ∃ before after : List EvWord, t.tga.outq = s.tga.outq ++ before
            ++ [0#1 ++ 0#1 ++ 5#3 ++ key ++ 0#1 ++ 0#16 ++ 0#16] ++ after)

/-- An announced contact that the sample lists stays announced in its role, whatever zone the sample is in (R118). -/
def Obligations.RoleIsLatched : Prop :=
  ∀ (s t : State) (inp : Inputs) (sf : SfWord) (i : TouchId),
    s.nextChoice = .agent .tga inp → s.sysOff = false → s.tga.phase = .read → inp.touch = .ok sf →
    s.tga.active i = true → (∃ w ∈ framePoints sf, w.id = i) → step s = .next t →
    t.tga.active i = true ∧ (t.tga.pointer = some i ↔ s.tga.pointer = some i)

/-- The pairing law of one iteration: presses and contacts announced before balance releases and contacts announced after,
and each pointer release has its exit (R114). -/
def Obligations.PressesAndReleasesBalance : Prop :=
  ∀ (s t : State) (inp : Inputs) (sf : SfWord),
    s.nextChoice = .agent .tga inp → s.sysOff = false → s.tga.phase = .read → inp.touch = .ok sf →
    TouchInv s.tga → step s = .next t →
    ∃ events, t.tga.outq = s.tga.outq ++ events
      ∧ countKind 0 events + countKind 4 events + activeCount s.tga
          = countKind 2 events + countKind 5 events + activeCount t.tga
      ∧ countKind 2 events = countKind 3 events

/-- A repeated observation makes no event and changes no per-touch register: the pointer at its recorded position or in the
button zone, and an announced key anywhere, with the other id not announced (R115, R107). -/
def Obligations.RepeatedObservationIsSuppressed : Prop :=
  ∀ (s : State) (inp : Inputs) (sf : SfWord) (w : TpWord),
    s.nextChoice = .agent .tga inp → s.sysOff = false → s.tga.phase = .read → inp.touch = .ok sf →
    framePoints sf = [w] → s.tga.active w.id = true → (∀ j, j ≠ w.id → s.tga.active j = false) →
    (s.tga.pointer = some w.id → (s.tga.touch w.id).last = ⟨w.x, w.y⟩ ∨ 240 ≤ w.y.toNat) →
    step s = .next { (s.begin inp).output (.call .touchRead .ok) with
      tga := { s.tga with empty := false, phase := .emit } }

/-- One iteration emits at most three events, for every sample and every state (R119). A sample that lists one id twice runs as R111 says
(log entry 22). -/
def Obligations.IterationEmitsAtMostThree : Prop :=
  ∀ (s t : State) (inp : Inputs) (sf : SfWord),
    s.nextChoice = .agent .tga inp → s.sysOff = false → s.tga.phase = .read → inp.touch = .ok sf →
    step s = .next t →
    t.tga.outq.length ≤ s.tga.outq.length + 3

/-- The iteration reads nothing but TGA's registers and each point's id and position: not `state`, not bit 33, not any other
register (R111, R117). -/
def Obligations.IterationReadsOnlyPointsAndTga : Prop :=
  ∀ (s1 s2 t1 t2 : State) (inp1 inp2 : Inputs) (sf1 sf2 : SfWord),
    s1.nextChoice = .agent .tga inp1 → s2.nextChoice = .agent .tga inp2 → s1.sysOff = false → s2.sysOff = false →
    s1.tga = s2.tga → s1.tga.phase = .read → inp1.touch = .ok sf1 → inp2.touch = .ok sf2 →
    (framePoints sf1).map (fun w => (w.id, w.x, w.y)) = (framePoints sf2).map (fun w => (w.id, w.x, w.y)) →
    step s1 = .next t1 → step s2 = .next t2 →
    t1.tga = t2.tga

/-- The send: one event a step to the tail of the bus while it has room; while it is full TGA waits with its state unchanged;
when all are sent, the 20 ms sleep begins (R110). Under `EVB_ARB = PMU_FIRST` (log entry 3) TGA also waits while PID
contends. -/
def Obligations.TgaSendsOrWaits : Prop :=
  ∀ (s : State) (inp : Inputs),
    s.nextChoice = .agent .tga inp → s.sysOff = false → s.tga.phase = .emit →
    let pidFirst := s.cfg.evbArb = .pmuFirst ∧ s.pid.phase = .emit ∧ s.pid.outq ≠ []
    (s.tga.outq = [] → step s = .next { s.begin inp with tga := { s.tga with timer := 20, phase := .sleep } })
    ∧ (∀ e rest, s.tga.outq = e :: rest → s.evbQ.length < 32 → ¬ pidFirst →
        step s = .next { s.begin inp with evbQ := s.evbQ ++ [e], tga := { s.tga with outq := rest } })
    ∧ (s.tga.outq ≠ [] → 32 ≤ s.evbQ.length ∨ pidFirst → step s = .next (s.begin inp))

/-- The poll sleep ends when its timer has run out: to the interrupt wait after an empty sample, else to the next read
(R109). -/
def Obligations.TgaWakes : Prop :=
  ∀ (s : State) (inp : Inputs),
    s.nextChoice = .agent .tga inp → s.sysOff = false → s.tga.phase = .sleep →
    (s.tga.timer ≠ 0 → step s = .next (s.begin inp))
    ∧ (s.tga.timer = 0 → s.tga.empty = true → step s = .next { s.begin inp with tga := { s.tga with phase := .wait } })
    ∧ (s.tga.timer = 0 → s.tga.empty = false → step s = .next { s.begin inp with tga := { s.tga with phase := .read } })

/-! ## PID -/

/-- PID waits for the asserted line, and its guard sleep ends when the timer has run out, and not before (41_pmu_decoder.md
R141, R147, 60_exceptions.md R242). That PID scheduled while it must wait takes a step that changes nothing of EVSUB is the
model's choice (log entry 13). -/
def Obligations.PidWaitsForTheLine : Prop :=
  ∀ (s : State) (inp : Inputs),
    s.nextChoice = .agent .pid inp → s.sysOff = false →
    (s.pid.phase = .wait → inp.pirq = true → step s = .next { s.begin inp with pid := { s.pid with phase := .read } })
    ∧ (s.pid.phase = .wait → inp.pirq = false → step s = .next (s.begin inp))
    ∧ (s.pid.phase = .sleep → s.pid.timer ≠ 0 → step s = .next (s.begin inp))
    ∧ (s.pid.phase = .sleep → s.pid.timer = 0 → step s = .next { s.begin inp with pid := { s.pid with phase := .wait } })

/-- PID reads the status bytes, register 0 first, and its very next step clears and decodes them (R142, R143). -/
def Obligations.PidReadsThenClears : Prop :=
  ∀ (s : State) (inp : Inputs),
    s.nextChoice = .agent .pid inp → s.sysOff = false →
    (∀ ps, s.pid.phase = .read → inp.pmuRead = .ok ps →
      step s = .next { (s.begin inp).output (.call .pmuRead .ok) with
        pid := { s.pid with
          stat := (List.range s.cfg.pmuNreg).map (fun r => ps.extractLsb' (8 * r) 8)
          phase := .clear } })
    ∧ (s.pid.phase = .clear → inp.pmuClear = .ok →
        step s = .next { (s.begin inp).output (.call .pmuClear .ok) with
          pid := { s.pid with outq := pidDecode s.cfg s.pid.stat, phase := .emit } })

/-- The decoded list is one event for each status bit that is set and kept by the mask, and no other, in rising order of
register and bit (R144, R145). -/
def Obligations.PidDecodesTheKeptBits : Prop :=
  ∀ (cfg : Params) (stat : List Byte), cfg.pmuNreg ≤ 8 →
    (∀ w, w ∈ pidDecode cfg stat ↔
      ∃ r b : Nat, r < cfg.pmuNreg ∧ b < 8 ∧ (stat.getD r 0).getLsbD b = true
        ∧ (cfg.pmuMask.getD r 0).getLsbD b = true
        ∧ w = 1#1 ++ 0#33 ++ BitVec.ofNat 3 r ++ BitVec.ofNat 3 b)
    ∧ (pidDecode cfg stat).Pairwise (fun v w => v.toNat < w.toNat)

/-- The best-effort send: the head goes to the tail of the bus, or is dropped where the bus is full; PID never waits for
room. When all are sent, the 50 ms guard sleep begins (R146, 20_memory.md R53). Under `EVB_ARB = TOUCH_FIRST` (log entry 3) PID
lets a contending push of TGA go first. -/
def Obligations.PidSendsOrDrops : Prop :=
  ∀ (s : State) (inp : Inputs),
    s.nextChoice = .agent .pid inp → s.sysOff = false → s.pid.phase = .emit →
    let tgaFirst := s.cfg.evbArb = .touchFirst ∧ s.tga.phase = .emit ∧ s.tga.outq ≠ []
    (s.pid.outq = [] → step s = .next { s.begin inp with pid := { s.pid with timer := 50, phase := .sleep } })
    ∧ (∀ e rest, s.pid.outq = e :: rest → s.evbQ.length < 32 → ¬ tgaFirst →
        step s = .next { s.begin inp with evbQ := s.evbQ ++ [e], pid := { s.pid with outq := rest } })
    ∧ (∀ e rest, s.pid.outq = e :: rest → 32 ≤ s.evbQ.length →
        step s = .next { s.begin inp with pid := { s.pid with outq := rest } })
    ∧ (s.pid.outq ≠ [] → s.evbQ.length < 32 → tgaFirst → step s = .next (s.begin inp))

/-- A failed touch read halts TGA, a failed PMU call halts PID, each with its log word, and nothing else changes (R148,
40_touch_arbiter.md R116, 60_exceptions.md R244, R245). -/
def Obligations.FailedReadHaltsItsAgent : Prop :=
  ∀ (s : State) (inp : Inputs), s.sysOff = false →
    (s.nextChoice = .agent .tga inp → s.tga.phase = .read → inp.touch = .err →
      step s = .next { ((s.begin inp).output (.call .touchRead .err)).output (.log 0x01) with
        tga := { s.tga with phase := .halt } })
    ∧ (s.nextChoice = .agent .pid inp → s.pid.phase = .read → inp.pmuRead = .err →
      step s = .next { ((s.begin inp).output (.call .pmuRead .err)).output (.log 0x12) with
        pid := { s.pid with phase := .halt } })
    ∧ (s.nextChoice = .agent .pid inp → s.pid.phase = .clear → inp.pmuClear = .err →
      step s = .next { ((s.begin inp).output (.call .pmuClear .err)).output (.log 0x13) with
        pid := { s.pid with phase := .halt } })

/-! ## ADV -/

/-- Each of the four commands has its one effect and changes nothing else, whatever the unused bits: `START` sets the running
flag (while already running it changes nothing), `STOP` clears it, `SETPOWER` sets the power level to the word's level,
`TERMINATE` moves ADV to `A_TERM` (42_adv_randomizer.md R162 to R165). -/
def Obligations.CommandsHaveTheirOneEffect : Prop :=
  ∀ (s : State) (unused level : BitVec 3),
    exec (.start unused level) s = .next { s with adv := { s.adv with running := true } }
    ∧ (s.adv.running = true → exec (.start unused level) s = .next s)
    ∧ exec (.stop unused level) s = .next { s with adv := { s.adv with running := false } }
    ∧ exec (.setPower unused level) s = .next { s with adv := { s.adv with power := level } }
    ∧ exec (.terminate unused level) s = .next { s with adv := { s.adv with phase := .term } }

/-- The drain ends at the first empty observation, in a cycle if running, else in the 500 ms backoff; the backoff, the hold
and the settle delay end when the timer has run out, and not before (R161, R166, R173). -/
def Obligations.AdvDrainEndsAndAdvWakes : Prop :=
  ∀ (s : State) (inp : Inputs),
    s.nextChoice = .agent .adv inp → s.sysOff = false →
    (s.adv.phase = .drain → s.ctlQ = [] → s.adv.running = true →
      step s = .next { s.begin inp with adv := { s.adv with phase := .synth } })
    ∧ (s.adv.phase = .drain → s.ctlQ = [] → s.adv.running = false →
      step s = .next { s.begin inp with adv := { s.adv with timer := 500, phase := .idle } })
    ∧ (s.adv.phase = .idle ∨ s.adv.phase = .hold ∨ s.adv.phase = .settle → s.adv.timer ≠ 0 → step s = .next (s.begin inp))
    ∧ (s.adv.phase = .idle → s.adv.timer = 0 → step s = .next { s.begin inp with adv := { s.adv with phase := .drain } })
    ∧ (s.adv.phase = .hold → s.adv.timer = 0 → step s = .next { s.begin inp with adv := { s.adv with phase := .stop } })
    ∧ (s.adv.phase = .settle → s.adv.timer = 0 → step s = .next { s.begin inp with adv := { s.adv with phase := .drain } })

/-- The synthesis with the draws of the environment: the two draws, the payload, the address, the mode and the power step
(R167 to R171, R177). -/
def Obligations.SynthesisBuildsTheProfile : Prop :=
  ∀ (s : State) (inp : Inputs),
    s.nextChoice = .agent .adv inp → s.sysOff = false → s.adv.phase = .synth → s.cfg.rngMode = .oracle →
    let pool := if inp.draw1.getLsbD 0 then s.cfg.poolShort else s.cfg.poolLong
    step s = .next { s.begin inp with
      adv := { s.adv with
        r1 := inp.draw1
        r2 := inp.draw2
        profile :=
          { payload := pool.getD (inp.draw1.toNat / 2 % pool.length) []
            addr := ⟨inp.draw1.extractLsb' 24 8 ||| 0xC0#8, inp.draw1.extractLsb' 16 8, inp.draw1.extractLsb' 8 8,
              inp.draw1.extractLsb' 0 8, inp.draw2.extractLsb' 24 8, inp.draw2.extractLsb' 16 8⟩
            mode := if inp.draw2.getLsbD 0 then .undirected else .nonConnectable
            step := s.adv.power }
        phase := .setAddr } }

/-- With the reference generator the two draws are its next two, and its state moves with them; one shift of it is that of
the polynomial, a draw is 32 shifts, and a draw from a state that is not 0 is not 0 (R167, R178). -/
def Obligations.SynthesisFromReferenceGenerator : Prop :=
  (∀ (s : State) (inp : Inputs),
    s.nextChoice = .agent .adv inp → s.sysOff = false → s.adv.phase = .synth → s.cfg.rngMode = .lfsr32 →
    let g1 := lfsrDraw s.adv.rng
    let g2 := lfsrDraw g1
    step s = .next { s.begin inp with
      adv := { s.adv with r1 := g1, r2 := g2, rng := g2, profile := synthProfile s.cfg s.adv.power g1 g2, phase := .setAddr } })
  ∧ ∀ g : Draw,
    (g.getLsbD 0 = true → lfsrShift g = (g >>> 1) ^^^ 0x80200003#32)
    ∧ (g.getLsbD 0 = false → lfsrShift g = g >>> 1)
    ∧ lfsrDraw g = Nat.repeat lfsrShift 32 g
    ∧ (g ≠ 0 → lfsrDraw g ≠ 0)

/-- The five radio operations complete where the radio answers `Ok`: the operation is seen at the port and ADV moves on, with
the 1000 ms hold loaded at `START_ADV` and the settle delay at `STOP_ADV` (R172, R173). -/
def Obligations.RadioOperationsComplete : Prop :=
  ∀ s : State, s.env.inp.radio = .ok →
    (∀ a, exec (.roSetAddr a) s = .next { s.output (.call (.radio (.setAddr a)) .ok) with
        adv := { s.adv with phase := .setPwr } })
    ∧ (∀ p, exec (.roSetTxpwr p) s = .next { s.output (.call (.radio (.setTxpwr p)) .ok) with
        adv := { s.adv with phase := .setAdv } })
    ∧ (∀ m p, exec (.roSetAdv m p) s = .next { s.output (.call (.radio (.setAdv m p)) .ok) with
        adv := { s.adv with phase := .start } })
    ∧ exec .roStartAdv s = .next { s.output (.call (.radio .startAdv) .ok) with
        adv := { s.adv with timer := 1000, phase := .hold } }
    ∧ exec .roStopAdv s = .next { s.output (.call (.radio .stopAdv) .ok) with
        adv := { s.adv with timer := s.cfg.settleMs, phase := .settle } }

/-- A radio operation the radio answers with `Err` halts ADV with its log word and changes nothing else (R174,
60_exceptions.md R244, R245). -/
def Obligations.RadioFailureHaltsAdv : Prop :=
  ∀ s : State, s.env.inp.radio = .err →
    let halted := fun (op : RadioOp) (log : LgWord) =>
      { (s.output (.call (.radio op) .err)).output (.log log) with adv := { s.adv with phase := .halt } }
    (∀ a, exec (.roSetAddr a) s = .next (halted (.setAddr a) 0x24))
    ∧ (∀ p, exec (.roSetTxpwr p) s = .next (halted (.setTxpwr p) 0x25))
    ∧ (∀ m p, exec (.roSetAdv m p) s = .next (halted (.setAdv m p) 0x26))
    ∧ exec .roStartAdv s = .next (halted .startAdv 0x27)
    ∧ exec .roStopAdv s = .next (halted .stopAdv 0x28)

/-! ## DSP -/

/-- The six window items: dropped while the screen is locked, else forwarded unchanged, whatever their fields
(43_event_bus_dispatcher.md R205). -/
def Obligations.WindowEventsPassTheGate : Prop :=
  ∀ (s : State) (f : WindowFields) (i : Instr) (kind : BitVec 3),
    (i, kind) ∈ [(Instr.evPtrPressed f, 0#3), (Instr.evPtrMoved f, 1#3), (Instr.evPtrReleased f, 2#3),
      (Instr.evPtrExited f, 3#3), (Instr.evKeyPressed f, 4#3), (Instr.evKeyReleased f, 5#3)] →
    (s.dsp.lock = true → exec i s = .next s)
    ∧ (s.dsp.lock = false →
        exec i s = .next { s with env := { s.env with
          outs := s.env.outs ++ [.uiEvent (0#1 ++ f.reserved ++ kind ++ f.key ++ f.button ++ f.x ++ f.y)] } })

/-- A word with `tag` 0 and a reserved kind is forwarded or dropped like any window word (30_encoding.md R81). -/
def Obligations.ReservedKindsPassTheGate : Prop :=
  ∀ (s : State) (inp : Inputs) (w : EvWord) (rest : List EvWord),
    s.nextChoice = .agent .dsp inp → s.sysOff = false → s.dsp.phase = .drain → s.evbQ = w :: rest →
    w.getLsbD 39 = false → 6 ≤ (w.extractLsb' 35 3).toNat →
    (s.dsp.lock = true → step s = .next { s.begin inp with evbQ := rest })
    ∧ (s.dsp.lock = false → step s = .next { (s.begin inp).output (.uiEvent w) with evbQ := rest })

/-- `EV.PMU` whatever the lock: the power-key code toggles the lock and the backlight with it, the level-2 code sets the
slow blink, the level-1 code powers off, every other code is logged only (R206 to R210). -/
def Obligations.PmuEventActs : Prop :=
  ∀ (s : State) (unused : BitVec 33) (reg bit : BitVec 3),
    let code : ReasonCode := reg ++ bit
    exec (.evPmu unused reg bit) s = .next (
      if code = s.cfg.codePekShort then
        { s with dsp := { s.dsp with lock := !s.dsp.lock, backlight := s.dsp.lock } }
      else if code = s.cfg.codeBatWarnL2 then { s with dsp := { s.dsp with led := .slowBlink } }
      else if code = s.cfg.codeBatWarnL1 then
        { s with sysOff := true, env := { s.env with outs := s.env.outs ++ [.powerOff] } }
      else { s with env := { s.env with outs := s.env.outs ++ [.log (1#2 ++ code)] } })

/-- The level-2 battery warning sets the slow blink and nothing else, and no step but a reset sets the pattern back (R208; that
the three codes are distinct is part of `Params.legal`, 41_pmu_decoder.md R149). -/
def Obligations.SlowBlinkStaysUntilReset : Prop :=
  (∀ (s : State) (unused : BitVec 33) (reg bit : BitVec 3), s.cfg.legal = true → reg ++ bit = s.cfg.codeBatWarnL2 →
    exec (.evPmu unused reg bit) s = .next { s with dsp := { s.dsp with led := .slowBlink } })
  ∧ ∀ s t : State, s.dsp.led = .slowBlink → s.nextChoice ≠ .powerOnReset → step s = .next t → t.dsp.led = .slowBlink

/-- The drain ends at the first empty observation; then one redraw pulse if there is damage and the 10 ms or 50 ms sleep;
then the next drain when the timer has run out (R204, R211, R212). -/
def Obligations.DspTickGoesOn : Prop :=
  ∀ (s : State) (inp : Inputs),
    s.nextChoice = .agent .dsp inp → s.sysOff = false →
    (s.dsp.phase = .drain → s.evbQ = [] → step s = .next { s.begin inp with dsp := { s.dsp with phase := .redraw } })
    ∧ (s.dsp.phase = .redraw →
        step s = .next { (if inp.uiDamage then (s.begin inp).output .redraw else s.begin inp) with
          dsp := { s.dsp with timer := if inp.uiAnim then 10 else 50, phase := .sleep } })
    ∧ (s.dsp.phase = .sleep → s.dsp.timer ≠ 0 → step s = .next (s.begin inp))
    ∧ (s.dsp.phase = .sleep → s.dsp.timer = 0 → step s = .next { s.begin inp with dsp := { s.dsp with phase := .drain } })

/-! ## Inputs, queues, time, power, faults -/

/-- A falling edge of `tirq` is latched; with `TIRQ_LATCH = false` only in `T_WAIT` (60_exceptions.md R241). -/
def Obligations.TouchEdgeIsLatched : Prop :=
  ∀ s : State, s.nextChoice = .touchEdge → s.sysOff = false →
    (s.cfg.tirqLatch = true ∨ s.tga.phase = .wait →
      step s = .next { s.dropChoice with tga := { s.tga with irqPend := true } })
    ∧ (s.cfg.tirqLatch = false → s.tga.phase ≠ .wait → step s = .next s.dropChoice)

/-- The command port takes a word, at the tail of `ctl_q`, exactly while fewer than 3 wait (20_memory.md R52,
43_event_bus_dispatcher.md R213), whatever the power and ADV's phase (70_reset_and_hazards.md R290). That the waiting sender is
the environment is the model's choice (log entry 19); that R256's "no input is taken" does not cover the port is its reading
(log entry 32). -/
def Obligations.CommandPortTakesThree : Prop :=
  ∀ (s : State) (w : CcWord), s.nextChoice = .command w →
    (s.ctlQ.length < 3 → step s = .next { s.dropChoice with ctlQ := s.ctlQ ++ [w] })
    ∧ (3 ≤ s.ctlQ.length → step s = .next s.dropChoice)

/-- `evb_q` changes only at its ends: a step leaves it, appends one word at the tail (TGA or PID), removes the head (DSP), or
is a reset (20_memory.md R51, R61, R62, 43_event_bus_dispatcher.md R200). -/
def Obligations.BusChangesOnlyAtItsEnds : Prop :=
  ∀ s t : State, step s = .next t →
    t.evbQ = s.evbQ
    ∨ (∃ inp w, (s.nextChoice = .agent .tga inp ∨ s.nextChoice = .agent .pid inp) ∧ t.evbQ = s.evbQ ++ [w])
    ∨ (∃ inp w, s.nextChoice = .agent .dsp inp ∧ s.evbQ = w :: t.evbQ)
    ∨ (s.nextChoice = .powerOnReset ∧ t.evbQ = [])

/-- An agent's step leaves the other agents' registers alone; `evb_q` is left alone by ADV, `ctl_q` by all but ADV, `sys_off`
by all but DSP; no step of any kind writes a parameter (10_state.md R20, R34). -/
def Obligations.AgentsWriteOnlyTheirOwn : Prop :=
  ∀ s t : State, step s = .next t →
    t.cfg = s.cfg
    ∧ (∀ a inp, s.nextChoice = .agent a inp →
        (a ≠ .tga → t.tga = s.tga) ∧ (a ≠ .pid → t.pid = s.pid) ∧ (a ≠ .adv → t.adv = s.adv) ∧ (a ≠ .dsp → t.dsp = s.dsp)
        ∧ (a = .adv → t.evbQ = s.evbQ) ∧ (a ≠ .adv → t.ctlQ = s.ctlQ) ∧ (a ≠ .dsp → t.sysOff = s.sysOff)
        ∧ t.startInstant = s.startInstant)

/-- `ms` milliseconds count every timer down, stopping at 0, and change no other register (10_state.md R40). That the timers count
together is the model's choice (log entry 24). -/
def Obligations.TimersCountDown : Prop :=
  ∀ (s t : State) (ms : Nat), s.nextChoice = .elapse ms → s.sysOff = false → step s = .next t →
    t.tga.timer.toNat = s.tga.timer.toNat - ms ∧ t.pid.timer.toNat = s.pid.timer.toNat - ms
    ∧ t.adv.timer.toNat = s.adv.timer.toNat - ms ∧ t.dsp.timer.toNat = s.dsp.timer.toNat - ms
    ∧ { t.tga with timer := s.tga.timer } = s.tga ∧ { t.pid with timer := s.pid.timer } = s.pid
    ∧ { t.adv with timer := s.adv.timer } = s.adv ∧ { t.dsp with timer := s.dsp.timer } = s.dsp
    ∧ t.evbQ = s.evbQ ∧ t.ctlQ = s.ctlQ ∧ t.sysOff = s.sysOff ∧ t.env.outs = s.env.outs

/-- Time never goes back, and the start instant, once taken, is kept by every step but a reset. An elapsed-time query takes the
start instant if it is the first, answers the time since, and changes nothing else; no query is taken once the power is off
(60_exceptions.md R251, R256). The clock, and that a reset forgets the instant, are the model's choice (log entry 17); so is
reading R256's "no input is taken" to cover the query (log entry 15). -/
def Obligations.ElapsedTimeIsMonotone : Prop :=
  (∀ s t : State, step s = .next t →
    s.env.nowMs ≤ t.env.nowMs
    ∧ (s.nextChoice ≠ .powerOnReset → ∀ n, s.startInstant = some n → t.startInstant = some n))
  ∧ ∀ s : State, s.nextChoice = .elapsedQuery →
    let start := s.startInstant.getD s.env.nowMs
    (s.sysOff = false →
      step s = .next { s.dropChoice.output (.elapsed (s.env.nowMs - start)) with startInstant := some start })
    ∧ (s.sysOff = true → step s = .next s.dropChoice)

/-- A power-off request of the UI takes effect at once in every phase: one pulse, `sys_off` set, nothing else (R214, R256). That
the request's arrival and DSP's step that takes it are one step is the model's choice (log entry 34). -/
def Obligations.UiPowerOffActsAtOnce : Prop :=
  ∀ s : State, s.nextChoice = .uiPowerOff → s.sysOff = false →
    step s = .next { s.dropChoice.output .powerOff with sysOff := true }

/-- While `sys_off` is set no step but a reset changes any register, queue or output (R256, 10_state.md R32), save that a command
still enters `ctl_q` while fewer than 3 wait there, never to be executed (93_implementation_defined.md U14, R290). That the
passing of time moves only the environment's clock is the model's reading (log entry 15), and so is that R256's "no input is
taken" does not cover the command port (log entry 32). -/
def Obligations.PowerOffStopsEverything : Prop :=
  ∀ s t : State, s.sysOff = true → s.nextChoice ≠ .powerOnReset → step s = .next t →
    t.tga = s.tga ∧ t.pid = s.pid ∧ t.adv = s.adv ∧ t.dsp = s.dsp ∧ t.evbQ = s.evbQ
    ∧ ((∀ w, s.nextChoice ≠ .command w) → t.ctlQ = s.ctlQ)
    ∧ (∀ w, s.nextChoice = .command w → t.ctlQ = if s.ctlQ.length < 3 then s.ctlQ ++ [w] else s.ctlQ)
    ∧ t.sysOff = true ∧ t.startInstant = s.startInstant ∧ t.env.outs = s.env.outs

/-- Only two things set `sys_off`: the UI's request, and DSP reaching a level-1 battery warning on the bus (R209, R214,
R256). -/
def Obligations.OnlyTwoThingsPowerOff : Prop :=
  ∀ s t : State, s.sysOff = false → step s = .next t → t.sysOff = true →
    s.nextChoice = .uiPowerOff
    ∨ ∃ inp w rest, s.nextChoice = .agent .dsp inp ∧ s.dsp.phase = .drain ∧ s.evbQ = w :: rest
        ∧ w.getLsbD 39 = true ∧ w.extractLsb' 0 6 = s.cfg.codeBatWarnL1

/-- After reset every register holds the value of the reset table: in `State.reset`, and after a power-on reset from any state
(70_reset_and_hazards.md R280; 10_state.md R37; for `p_stat`, the draws and the profile R37 states no value and the
statement names none; that `g` is seeded whatever the mode of draws is the model's reading of R178, log entry 5). -/
def Obligations.ResetGivesTheTable : Prop :=
  ∀ t : State, t = State.reset ∨ (∃ s : State, s.nextChoice = .powerOnReset ∧ step s = .next t) →
    t.tga = ⟨.wait, ⟨false, ⟨0xFFFF, 0xFFFF⟩⟩, ⟨false, ⟨0xFFFF, 0xFFFF⟩⟩, none, false, [], false, 0⟩
    ∧ t.pid.phase = .wait ∧ t.pid.outq = [] ∧ t.pid.timer = 0
    ∧ t.adv.phase = .drain ∧ t.adv.running = false ∧ t.adv.power = t.cfg.powerInit ∧ t.adv.timer = 0
    ∧ t.adv.rng = t.cfg.rngSeed
    ∧ t.dsp = ⟨.drain, false, true, .default, 0⟩
    ∧ t.evbQ = [] ∧ t.ctlQ = [] ∧ t.sysOff = false

/-- Nothing but a reset leaves a halted phase or `A_TERM`, a halted agent that is scheduled makes no call and changes nothing,
and a reset restarts it (R246, 42_adv_randomizer.md R165, 70_reset_and_hazards.md R280). That the scheduled halted agent takes
a step at all is the model's choice (log entry 13). -/
def Obligations.HaltedStaysHalted : Prop :=
  ∀ s t : State, step s = .next t →
    (s.nextChoice ≠ .powerOnReset →
      (s.tga.phase = .halt → t.tga.phase = .halt)
      ∧ (s.pid.phase = .halt → t.pid.phase = .halt)
      ∧ (s.adv.phase = .halt → t.adv.phase = .halt)
      ∧ (s.adv.phase = .term → t.adv.phase = .term))
    ∧ (∀ inp, s.tga.phase = .halt → s.nextChoice = .agent .tga inp → t = s.begin inp)
    ∧ (∀ inp, s.pid.phase = .halt → s.nextChoice = .agent .pid inp → t = s.begin inp)
    ∧ (∀ inp, s.adv.phase = .halt ∨ s.adv.phase = .term → s.nextChoice = .agent .adv inp → t = s.begin inp)
    ∧ (s.nextChoice = .powerOnReset → t.tga.phase = .wait ∧ t.pid.phase = .wait ∧ t.adv.phase = .drain)

/-- An agent halts only by its own failed call, and then only its phase changes, with the call and one `FATAL` log word at
the ports: the other agents, both queues and the power stay as they were (R244, R245, R247). -/
def Obligations.FaultReachesOneAgent : Prop :=
  ∀ s t : State, step s = .next t →
    (s.tga.phase ≠ .halt → t.tga.phase = .halt →
      ∃ inp, s.nextChoice = .agent .tga inp
        ∧ t = { ((s.begin inp).output (.call .touchRead .err)).output (.log 0x01) with
            tga := { s.tga with phase := .halt } })
    ∧ (s.pid.phase ≠ .halt → t.pid.phase = .halt →
        ∃ inp call log, s.nextChoice = .agent .pid inp
          ∧ (call, log) ∈ [(Call.pmuRead, 0x12#8), (Call.pmuClear, 0x13#8)]
          ∧ t = { ((s.begin inp).output (.call call .err)).output (.log log) with
              pid := { s.pid with phase := .halt } })
    ∧ (s.adv.phase ≠ .halt → t.adv.phase = .halt →
        ∃ inp op log, s.nextChoice = .agent .adv inp
          ∧ (op, log) ∈ [(RadioOp.setAddr s.adv.profile.addr, 0x24#8), (RadioOp.setTxpwr s.adv.profile.step, 0x25#8),
              (RadioOp.setAdv s.adv.profile.mode s.adv.profile.payload, 0x26#8), (RadioOp.startAdv, 0x27#8),
              (RadioOp.stopAdv, 0x28#8)]
          ∧ t = { ((s.begin inp).output (.call (.radio op) .err)).output (.log log) with
              adv := { s.adv with phase := .halt } })

/-- No step ever ends in a fault or a refusal. R81 says that no encoding traps and R245 that a fault halts one agent; that the
step is total is the model's choice: it goes on after `sys_off` and with agents halted (log entry 29), an agent that cannot
step waits in a step of its own (log entry 13), and a fatal fault is a next state, with no constructor in `Fault` (log
entry 20). (30_encoding.md R81, 60_exceptions.md R245.) -/
def Obligations.NoStepEverStops : Prop :=
  ∀ s : State, ∃ t, step s = .next t

/-! ## Invariants that every step keeps, from every state that has them -/

/-- The reset state has every invariant below (10_state.md R37). That the parameters are legal and nothing has left the ports
there is the model's own (log entries 2 and 14); that `g`, for which R37 has no row, holds the seed, which is not 0, although
the draws come from the environment there, is the model's reading of R178 (log entry 5). -/
def Obligations.ResetHasTheInvariants : Prop :=
  State.reset.cfg.legal = true ∧ QueuesBounded State.reset ∧ TouchInv State.reset.tga ∧ BacklightFollowsLock State.reset
  ∧ RadioInv State.reset ∧ OnAirInHold State.reset ∧ BusInv State.reset ∧ TimersBounded State.reset
  ∧ State.reset.adv.rng ≠ 0

/-- The queues and out-queues stay within their capacities, and an out-queue is empty outside its agent's emit phase
(10_state.md R24, R25, R28, R29; 40_touch_arbiter.md R119). -/
def Obligations.StepKeepsQueuesBounded : Prop :=
  ∀ s t : State, QueuesBounded s → step s = .next t → QueuesBounded t

/-- A session ends and starts with no contact announced, and an announced contact that is not the pointer has a key
(40_touch_arbiter.md R108, R113, R114). -/
def Obligations.StepKeepsTouchInv : Prop :=
  ∀ s t : State, TouchInv s.tga → step s = .next t → TouchInv t.tga

/-- The backlight is on exactly while the screen is unlocked (43_event_bus_dispatcher.md R207). -/
def Obligations.StepKeepsBacklight : Prop :=
  ∀ s t : State, BacklightFollowsLock s → step s = .next t → BacklightFollowsLock t

/-- Every address that leaves the radio port has its two top bits 1, and every payload is an entry of one of the two pools
(42_adv_randomizer.md R168, R176). What has reached the radio is read from the model's list
of outputs (log entry 14). -/
def Obligations.StepKeepsRadioInv : Prop :=
  ∀ s t : State, s.cfg.legal = true → RadioInv s → step s = .next t → RadioInv t

/-- At every step but a reset: the radio is on air exactly from an accepted `START_ADV` to the accepted `STOP_ADV` of the same cycle, unless a fault
halted ADV in between; so it is off air in the drain, where `TERMINATE` is taken (R165, R173, R174). A reset step is left out: it
restarts ADV in the drain and stops no radio. What is on air is read from the model's list of outputs, which a reset keeps
(log entries 14 and 16). -/
def Obligations.StepKeepsOnAirInHold : Prop :=
  ∀ s t : State, s.nextChoice ≠ .powerOnReset → OnAirInHold s → step s = .next t → OnAirInHold t

/-- Every word on its way to DSP is one TGA or PID generates: no reserved kind, key or bit, and no PMU code the mask
suppresses (30_encoding.md R73, R74, R81). -/
def Obligations.StepKeepsBusInv : Prop :=
  ∀ s t : State, BusInv s → step s = .next t → BusInv t

/-- A timer runs only in its agent's sleep phases and never above the delay that phase loads: 20 ms for TGA, 50 for PID, 500
in `A_IDLE`, 1000 in `A_HOLD`, `ADV_SETTLE_MS` in `A_SETTLE`, the longer of its two, 50, for DSP (60_exceptions.md R250). The
generator's state is never 0 (42_adv_randomizer.md R178; that this holds too while the draws come from the environment, and
after a reset then, is the model's reading, log entry 5). -/
def Obligations.StepKeepsTimersBounded : Prop :=
  ∀ s t : State, s.cfg.legal = true → TimersBounded s → s.adv.rng ≠ 0 → step s = .next t →
    TimersBounded t ∧ t.adv.rng ≠ 0
end

