-- ==== Sys2Proof/Laws/Config.lean ====
section
/-! SUPPORT. The parameters of the machine that comes out of reset meet the constraints of 92_eei_decisions.md section 8,
whatever the constants they are built from; and the sizes R7 names are the sizes of the model's types. -/

namespace Sys2Proof

/-- `TOUCH_IDS`: the touch ids are as many as R7 says. -/
theorem Config.touchIds_eq : ∃ l : List TouchId, l.Nodup ∧ l.length = Config.touchIds ∧ ∀ i, i ∈ l :=
  ⟨[.id0, .id1], by decide, rfl, by intro i; cases i <;> decide⟩

/-- `COORD_W`: a coordinate has that width. -/
theorem Config.coordW_eq : Coord = BitVec Config.coordW := rfl

/-- `PMU_REG_W`: a status byte has that width. -/
theorem Config.pmuRegW_eq : Byte = BitVec Config.pmuRegW := rfl

/-- `ADV_POWER_STEPS`: a power step's 3 bits are exactly those steps. -/
theorem Config.advPowerSteps_eq : Config.advPowerSteps = 2 ^ 3 := rfl

/-- `ADDR_LEN`: an address is that many bytes. -/
theorem Config.addrLen_eq (a : Address) : a.bytes.length = Config.addrLen := rfl

theorem Config.pmuNreg_pos : 1 ≤ Config.pmuNreg := Nat.le_add_left _ _

theorem Config.pmuNreg_le : Config.pmuNreg ≤ 8 := by
  have := Config.pmuNregLessOne.isLt
  unfold Config.pmuNreg; omega

/-- The pick from a non-empty list is one of its members. -/
theorem Config.pick_mem (l : List Nat) (n : Nat) (h : 0 < l.length) : l.getD (n % l.length) 0 ∈ l := by
  have hlt := Nat.mod_lt n h
  rw [List.getD_eq_getElem _ _ hlt]
  exact List.getElem_mem hlt

theorem Config.codes_length : Config.codes.length = 8 * Config.pmuNreg := by simp [Config.codes, Config.pmuRegW]

theorem Config.codes_nodup : Config.codes.Nodup := List.nodup_range

theorem Config.codePekShort_mem : Config.codePekShort ∈ Config.codes :=
  Config.pick_mem _ _ (by have := Config.codes_length; have := Config.pmuNreg_pos; omega)

theorem Config.codesLeftL2_length : Config.codesLeftL2.length = 8 * Config.pmuNreg - 1 := by
  rw [Config.codesLeftL2, List.length_erase_of_mem Config.codePekShort_mem, Config.codes_length]

theorem Config.codeBatWarnL2_mem : Config.codeBatWarnL2 ∈ Config.codesLeftL2 :=
  Config.pick_mem _ _ (by have := Config.codesLeftL2_length; have := Config.pmuNreg_pos; omega)

theorem Config.codesLeftL1_length : Config.codesLeftL1.length = 8 * Config.pmuNreg - 2 := by
  rw [Config.codesLeftL1, List.length_erase_of_mem Config.codeBatWarnL2_mem, Config.codesLeftL2_length]; omega

theorem Config.codeBatWarnL1_mem : Config.codeBatWarnL1 ∈ Config.codesLeftL1 :=
  Config.pick_mem _ _ (by have := Config.codesLeftL1_length; have := Config.pmuNreg_pos; omega)

/-- A code below `8*PMU_NREG` is a reason code of 6 bits. -/
theorem Config.code_toNat {c : Nat} (h : c ∈ Config.codes) : (BitVec.ofNat 6 c).toNat = c := by
  have h1 : c < 8 * Config.pmuNreg := List.mem_range.1 h
  have h2 := Config.pmuNreg_le
  rw [BitVec.toNat_ofNat]; omega

theorem Config.code_lt {c : Nat} (h : c ∈ Config.codes) : (BitVec.ofNat 6 c).toNat < 8 * Config.pmuNreg := by
  rw [Config.code_toNat h]; exact List.mem_range.1 h

/-- Codes that differ as numbers differ as words. -/
theorem Config.code_ne {a b : Nat} (ha : a ∈ Config.codes) (hb : b ∈ Config.codes) (h : a ≠ b) :
    BitVec.ofNat 6 a ≠ BitVec.ofNat 6 b := fun e => h (by
  have := congrArg BitVec.toNat e
  rwa [Config.code_toNat ha, Config.code_toNat hb] at this)

theorem Config.poolOf_wf (more len : Nat) (byte : Nat → Nat → Byte) : Params.poolWf (Config.poolOf more len byte) = true := by
  simp [Params.poolWf, Config.poolOf, List.range_succ_eq_map]

theorem Config.params_legal : Config.params.legal = true := by
  have l2 := (Config.codes_nodup.mem_erase_iff).1 Config.codeBatWarnL2_mem
  have n2 : Config.codesLeftL2.Nodup := Config.codes_nodup.erase _
  have l1 := n2.mem_erase_iff.1 Config.codeBatWarnL1_mem
  have l1' := (Config.codes_nodup.mem_erase_iff).1 l1.2
  have hp := Config.codePekShort_mem
  have hs : (BitVec.ofNat 10 (Config.settleLessTen.val + 10)).toNat = Config.settleLessTen.val + 10 := by
    have := Config.settleLessTen.isLt
    rw [BitVec.toNat_ofNat]; omega
  have hs' := Config.settleLessTen.isLt
  have hseed : (if Config.rngSeedRaw = 0 then 1 else Config.rngSeedRaw : Draw) ≠ 0 := by
    split
    · decide
    · assumption
  simp only [Params.legal, Config.params, Bool.and_eq_true, decide_eq_true_eq, beq_iff_eq, bne_iff_ne, ne_eq,
    List.length_map, List.length_range, hs]
  refine ⟨⟨⟨⟨⟨⟨⟨⟨⟨⟨⟨⟨⟨decide_eq_true Config.pmuNreg_pos, decide_eq_true Config.pmuNreg_le⟩, trivial⟩, ?_⟩, ?_⟩, ?_⟩,
    Config.code_ne hp l2.2 l2.1.symm⟩, Config.code_ne hp l1'.2 l1'.1.symm⟩, Config.code_ne l2.2 l1'.2 l1.1.symm⟩,
    Config.poolOf_wf _ _ _⟩, Config.poolOf_wf _ _ _⟩, ?_⟩, ?_⟩, hseed⟩
  · exact decide_eq_true (Config.code_lt hp)
  · exact decide_eq_true (Config.code_lt l2.2)
  · exact decide_eq_true (Config.code_lt l1'.2)
  · omega
  · omega

end Sys2Proof
end

