-- ==== Sys2Proof/Laws/State.lean ====
section
/-! SUPPORT. One lemma per field per update of the state, each true by `rfl`, so that no proof unfolds a record update. -/

namespace Sys2Proof.Machine

section
variable (s : State)

@[simp] theorem State.setTga_tga (v : Tga) : (s.setTga v).tga = v := rfl
@[simp] theorem State.setTga_pid (v : Tga) : (s.setTga v).pid = s.pid := rfl
@[simp] theorem State.setTga_adv (v : Tga) : (s.setTga v).adv = s.adv := rfl
@[simp] theorem State.setTga_dsp (v : Tga) : (s.setTga v).dsp = s.dsp := rfl
@[simp] theorem State.setTga_evbQ (v : Tga) : (s.setTga v).evbQ = s.evbQ := rfl
@[simp] theorem State.setTga_ctlQ (v : Tga) : (s.setTga v).ctlQ = s.ctlQ := rfl
@[simp] theorem State.setTga_sysOff (v : Tga) : (s.setTga v).sysOff = s.sysOff := rfl
@[simp] theorem State.setTga_startInstant (v : Tga) : (s.setTga v).startInstant = s.startInstant := rfl
@[simp] theorem State.setTga_cfg (v : Tga) : (s.setTga v).cfg = s.cfg := rfl
@[simp] theorem State.setTga_env (v : Tga) : (s.setTga v).env = s.env := rfl
/-- Writing back what is there changes nothing. -/
@[simp] theorem State.setTga_self : s.setTga s.tga = s := rfl

@[simp] theorem State.setPid_tga (v : Pid) : (s.setPid v).tga = s.tga := rfl
@[simp] theorem State.setPid_pid (v : Pid) : (s.setPid v).pid = v := rfl
@[simp] theorem State.setPid_adv (v : Pid) : (s.setPid v).adv = s.adv := rfl
@[simp] theorem State.setPid_dsp (v : Pid) : (s.setPid v).dsp = s.dsp := rfl
@[simp] theorem State.setPid_evbQ (v : Pid) : (s.setPid v).evbQ = s.evbQ := rfl
@[simp] theorem State.setPid_ctlQ (v : Pid) : (s.setPid v).ctlQ = s.ctlQ := rfl
@[simp] theorem State.setPid_sysOff (v : Pid) : (s.setPid v).sysOff = s.sysOff := rfl
@[simp] theorem State.setPid_startInstant (v : Pid) : (s.setPid v).startInstant = s.startInstant := rfl
@[simp] theorem State.setPid_cfg (v : Pid) : (s.setPid v).cfg = s.cfg := rfl
@[simp] theorem State.setPid_env (v : Pid) : (s.setPid v).env = s.env := rfl
/-- Writing back what is there changes nothing. -/
@[simp] theorem State.setPid_self : s.setPid s.pid = s := rfl

@[simp] theorem State.setAdv_tga (v : Adv) : (s.setAdv v).tga = s.tga := rfl
@[simp] theorem State.setAdv_pid (v : Adv) : (s.setAdv v).pid = s.pid := rfl
@[simp] theorem State.setAdv_adv (v : Adv) : (s.setAdv v).adv = v := rfl
@[simp] theorem State.setAdv_dsp (v : Adv) : (s.setAdv v).dsp = s.dsp := rfl
@[simp] theorem State.setAdv_evbQ (v : Adv) : (s.setAdv v).evbQ = s.evbQ := rfl
@[simp] theorem State.setAdv_ctlQ (v : Adv) : (s.setAdv v).ctlQ = s.ctlQ := rfl
@[simp] theorem State.setAdv_sysOff (v : Adv) : (s.setAdv v).sysOff = s.sysOff := rfl
@[simp] theorem State.setAdv_startInstant (v : Adv) : (s.setAdv v).startInstant = s.startInstant := rfl
@[simp] theorem State.setAdv_cfg (v : Adv) : (s.setAdv v).cfg = s.cfg := rfl
@[simp] theorem State.setAdv_env (v : Adv) : (s.setAdv v).env = s.env := rfl
/-- Writing back what is there changes nothing. -/
@[simp] theorem State.setAdv_self : s.setAdv s.adv = s := rfl

@[simp] theorem State.setDsp_tga (v : Dsp) : (s.setDsp v).tga = s.tga := rfl
@[simp] theorem State.setDsp_pid (v : Dsp) : (s.setDsp v).pid = s.pid := rfl
@[simp] theorem State.setDsp_adv (v : Dsp) : (s.setDsp v).adv = s.adv := rfl
@[simp] theorem State.setDsp_dsp (v : Dsp) : (s.setDsp v).dsp = v := rfl
@[simp] theorem State.setDsp_evbQ (v : Dsp) : (s.setDsp v).evbQ = s.evbQ := rfl
@[simp] theorem State.setDsp_ctlQ (v : Dsp) : (s.setDsp v).ctlQ = s.ctlQ := rfl
@[simp] theorem State.setDsp_sysOff (v : Dsp) : (s.setDsp v).sysOff = s.sysOff := rfl
@[simp] theorem State.setDsp_startInstant (v : Dsp) : (s.setDsp v).startInstant = s.startInstant := rfl
@[simp] theorem State.setDsp_cfg (v : Dsp) : (s.setDsp v).cfg = s.cfg := rfl
@[simp] theorem State.setDsp_env (v : Dsp) : (s.setDsp v).env = s.env := rfl
/-- Writing back what is there changes nothing. -/
@[simp] theorem State.setDsp_self : s.setDsp s.dsp = s := rfl

@[simp] theorem State.setEvbQ_tga (v : List EvWord) : (s.setEvbQ v).tga = s.tga := rfl
@[simp] theorem State.setEvbQ_pid (v : List EvWord) : (s.setEvbQ v).pid = s.pid := rfl
@[simp] theorem State.setEvbQ_adv (v : List EvWord) : (s.setEvbQ v).adv = s.adv := rfl
@[simp] theorem State.setEvbQ_dsp (v : List EvWord) : (s.setEvbQ v).dsp = s.dsp := rfl
@[simp] theorem State.setEvbQ_evbQ (v : List EvWord) : (s.setEvbQ v).evbQ = v := rfl
@[simp] theorem State.setEvbQ_ctlQ (v : List EvWord) : (s.setEvbQ v).ctlQ = s.ctlQ := rfl
@[simp] theorem State.setEvbQ_sysOff (v : List EvWord) : (s.setEvbQ v).sysOff = s.sysOff := rfl
@[simp] theorem State.setEvbQ_startInstant (v : List EvWord) : (s.setEvbQ v).startInstant = s.startInstant := rfl
@[simp] theorem State.setEvbQ_cfg (v : List EvWord) : (s.setEvbQ v).cfg = s.cfg := rfl
@[simp] theorem State.setEvbQ_env (v : List EvWord) : (s.setEvbQ v).env = s.env := rfl
/-- Writing back what is there changes nothing. -/
@[simp] theorem State.setEvbQ_self : s.setEvbQ s.evbQ = s := rfl

@[simp] theorem State.setCtlQ_tga (v : List CcWord) : (s.setCtlQ v).tga = s.tga := rfl
@[simp] theorem State.setCtlQ_pid (v : List CcWord) : (s.setCtlQ v).pid = s.pid := rfl
@[simp] theorem State.setCtlQ_adv (v : List CcWord) : (s.setCtlQ v).adv = s.adv := rfl
@[simp] theorem State.setCtlQ_dsp (v : List CcWord) : (s.setCtlQ v).dsp = s.dsp := rfl
@[simp] theorem State.setCtlQ_evbQ (v : List CcWord) : (s.setCtlQ v).evbQ = s.evbQ := rfl
@[simp] theorem State.setCtlQ_ctlQ (v : List CcWord) : (s.setCtlQ v).ctlQ = v := rfl
@[simp] theorem State.setCtlQ_sysOff (v : List CcWord) : (s.setCtlQ v).sysOff = s.sysOff := rfl
@[simp] theorem State.setCtlQ_startInstant (v : List CcWord) : (s.setCtlQ v).startInstant = s.startInstant := rfl
@[simp] theorem State.setCtlQ_cfg (v : List CcWord) : (s.setCtlQ v).cfg = s.cfg := rfl
@[simp] theorem State.setCtlQ_env (v : List CcWord) : (s.setCtlQ v).env = s.env := rfl
/-- Writing back what is there changes nothing. -/
@[simp] theorem State.setCtlQ_self : s.setCtlQ s.ctlQ = s := rfl

@[simp] theorem State.setSysOff_tga (v : Bool) : (s.setSysOff v).tga = s.tga := rfl
@[simp] theorem State.setSysOff_pid (v : Bool) : (s.setSysOff v).pid = s.pid := rfl
@[simp] theorem State.setSysOff_adv (v : Bool) : (s.setSysOff v).adv = s.adv := rfl
@[simp] theorem State.setSysOff_dsp (v : Bool) : (s.setSysOff v).dsp = s.dsp := rfl
@[simp] theorem State.setSysOff_evbQ (v : Bool) : (s.setSysOff v).evbQ = s.evbQ := rfl
@[simp] theorem State.setSysOff_ctlQ (v : Bool) : (s.setSysOff v).ctlQ = s.ctlQ := rfl
@[simp] theorem State.setSysOff_sysOff (v : Bool) : (s.setSysOff v).sysOff = v := rfl
@[simp] theorem State.setSysOff_startInstant (v : Bool) : (s.setSysOff v).startInstant = s.startInstant := rfl
@[simp] theorem State.setSysOff_cfg (v : Bool) : (s.setSysOff v).cfg = s.cfg := rfl
@[simp] theorem State.setSysOff_env (v : Bool) : (s.setSysOff v).env = s.env := rfl
/-- Writing back what is there changes nothing. -/
@[simp] theorem State.setSysOff_self : s.setSysOff s.sysOff = s := rfl

@[simp] theorem State.setStartInstant_tga (v : Option Nat) : (s.setStartInstant v).tga = s.tga := rfl
@[simp] theorem State.setStartInstant_pid (v : Option Nat) : (s.setStartInstant v).pid = s.pid := rfl
@[simp] theorem State.setStartInstant_adv (v : Option Nat) : (s.setStartInstant v).adv = s.adv := rfl
@[simp] theorem State.setStartInstant_dsp (v : Option Nat) : (s.setStartInstant v).dsp = s.dsp := rfl
@[simp] theorem State.setStartInstant_evbQ (v : Option Nat) : (s.setStartInstant v).evbQ = s.evbQ := rfl
@[simp] theorem State.setStartInstant_ctlQ (v : Option Nat) : (s.setStartInstant v).ctlQ = s.ctlQ := rfl
@[simp] theorem State.setStartInstant_sysOff (v : Option Nat) : (s.setStartInstant v).sysOff = s.sysOff := rfl
@[simp] theorem State.setStartInstant_startInstant (v : Option Nat) : (s.setStartInstant v).startInstant = v := rfl
@[simp] theorem State.setStartInstant_cfg (v : Option Nat) : (s.setStartInstant v).cfg = s.cfg := rfl
@[simp] theorem State.setStartInstant_env (v : Option Nat) : (s.setStartInstant v).env = s.env := rfl
/-- Writing back what is there changes nothing. -/
@[simp] theorem State.setStartInstant_self : s.setStartInstant s.startInstant = s := rfl

@[simp] theorem State.setEnv_tga (v : Env) : (s.setEnv v).tga = s.tga := rfl
@[simp] theorem State.setEnv_pid (v : Env) : (s.setEnv v).pid = s.pid := rfl
@[simp] theorem State.setEnv_adv (v : Env) : (s.setEnv v).adv = s.adv := rfl
@[simp] theorem State.setEnv_dsp (v : Env) : (s.setEnv v).dsp = s.dsp := rfl
@[simp] theorem State.setEnv_evbQ (v : Env) : (s.setEnv v).evbQ = s.evbQ := rfl
@[simp] theorem State.setEnv_ctlQ (v : Env) : (s.setEnv v).ctlQ = s.ctlQ := rfl
@[simp] theorem State.setEnv_sysOff (v : Env) : (s.setEnv v).sysOff = s.sysOff := rfl
@[simp] theorem State.setEnv_startInstant (v : Env) : (s.setEnv v).startInstant = s.startInstant := rfl
@[simp] theorem State.setEnv_cfg (v : Env) : (s.setEnv v).cfg = s.cfg := rfl
@[simp] theorem State.setEnv_env (v : Env) : (s.setEnv v).env = v := rfl
/-- Writing back what is there changes nothing. -/
@[simp] theorem State.setEnv_self : s.setEnv s.env = s := rfl

@[simp] theorem State.output_tga (o : Output) : (s.output o).tga = s.tga := rfl
@[simp] theorem State.output_pid (o : Output) : (s.output o).pid = s.pid := rfl
@[simp] theorem State.output_adv (o : Output) : (s.output o).adv = s.adv := rfl
@[simp] theorem State.output_dsp (o : Output) : (s.output o).dsp = s.dsp := rfl
@[simp] theorem State.output_evbQ (o : Output) : (s.output o).evbQ = s.evbQ := rfl
@[simp] theorem State.output_ctlQ (o : Output) : (s.output o).ctlQ = s.ctlQ := rfl
@[simp] theorem State.output_sysOff (o : Output) : (s.output o).sysOff = s.sysOff := rfl
@[simp] theorem State.output_startInstant (o : Output) : (s.output o).startInstant = s.startInstant := rfl
@[simp] theorem State.output_cfg (o : Output) : (s.output o).cfg = s.cfg := rfl
@[simp] theorem State.output_outs (o : Output) : (s.output o).env.outs = s.env.outs ++ [o] := rfl
@[simp] theorem State.output_inp (o : Output) : (s.output o).env.inp = s.env.inp := rfl
@[simp] theorem State.output_nowMs (o : Output) : (s.output o).env.nowMs = s.env.nowMs := rfl

@[simp] theorem State.setInputs_tga (inp : Inputs) : (s.setInputs inp).tga = s.tga := rfl
@[simp] theorem State.setInputs_pid (inp : Inputs) : (s.setInputs inp).pid = s.pid := rfl
@[simp] theorem State.setInputs_adv (inp : Inputs) : (s.setInputs inp).adv = s.adv := rfl
@[simp] theorem State.setInputs_dsp (inp : Inputs) : (s.setInputs inp).dsp = s.dsp := rfl
@[simp] theorem State.setInputs_evbQ (inp : Inputs) : (s.setInputs inp).evbQ = s.evbQ := rfl
@[simp] theorem State.setInputs_ctlQ (inp : Inputs) : (s.setInputs inp).ctlQ = s.ctlQ := rfl
@[simp] theorem State.setInputs_sysOff (inp : Inputs) : (s.setInputs inp).sysOff = s.sysOff := rfl
@[simp] theorem State.setInputs_startInstant (inp : Inputs) : (s.setInputs inp).startInstant = s.startInstant := rfl
@[simp] theorem State.setInputs_cfg (inp : Inputs) : (s.setInputs inp).cfg = s.cfg := rfl
@[simp] theorem State.setInputs_inp (inp : Inputs) : (s.setInputs inp).env.inp = inp := rfl
@[simp] theorem State.setInputs_outs (inp : Inputs) : (s.setInputs inp).env.outs = s.env.outs := rfl
@[simp] theorem State.setInputs_nowMs (inp : Inputs) : (s.setInputs inp).env.nowMs = s.env.nowMs := rfl

@[simp] theorem State.dropChoice_tga : s.dropChoice.tga = s.tga := by unfold State.dropChoice; split <;> rfl
@[simp] theorem State.dropChoice_pid : s.dropChoice.pid = s.pid := by unfold State.dropChoice; split <;> rfl
@[simp] theorem State.dropChoice_adv : s.dropChoice.adv = s.adv := by unfold State.dropChoice; split <;> rfl
@[simp] theorem State.dropChoice_dsp : s.dropChoice.dsp = s.dsp := by unfold State.dropChoice; split <;> rfl
@[simp] theorem State.dropChoice_evbQ : s.dropChoice.evbQ = s.evbQ := by unfold State.dropChoice; split <;> rfl
@[simp] theorem State.dropChoice_ctlQ : s.dropChoice.ctlQ = s.ctlQ := by unfold State.dropChoice; split <;> rfl
@[simp] theorem State.dropChoice_sysOff : s.dropChoice.sysOff = s.sysOff := by unfold State.dropChoice; split <;> rfl
@[simp] theorem State.dropChoice_startInstant : s.dropChoice.startInstant = s.startInstant := by unfold State.dropChoice; split <;> rfl
@[simp] theorem State.dropChoice_cfg : s.dropChoice.cfg = s.cfg := by unfold State.dropChoice; split <;> rfl
@[simp] theorem State.dropChoice_inp : s.dropChoice.env.inp = s.env.inp := by unfold State.dropChoice; split <;> rfl
@[simp] theorem State.dropChoice_outs : s.dropChoice.env.outs = s.env.outs := by unfold State.dropChoice; split <;> rfl
@[simp] theorem State.dropChoice_nowMs : s.dropChoice.env.nowMs = s.env.nowMs := by unfold State.dropChoice; split <;> rfl

end

section
variable (t : Tga) (i : TouchId)

@[simp] theorem Tga.emit_phase (e : EvWord) : (t.emit e).phase = t.phase := rfl
@[simp] theorem Tga.emit_touch0 (e : EvWord) : (t.emit e).touch0 = t.touch0 := rfl
@[simp] theorem Tga.emit_touch1 (e : EvWord) : (t.emit e).touch1 = t.touch1 := rfl
@[simp] theorem Tga.emit_pointer (e : EvWord) : (t.emit e).pointer = t.pointer := rfl
@[simp] theorem Tga.emit_empty (e : EvWord) : (t.emit e).empty = t.empty := rfl
@[simp] theorem Tga.emit_outq (e : EvWord) : (t.emit e).outq = t.outq ++ [e] := rfl
@[simp] theorem Tga.emit_irqPend (e : EvWord) : (t.emit e).irqPend = t.irqPend := rfl
@[simp] theorem Tga.emit_timer (e : EvWord) : (t.emit e).timer = t.timer := rfl
@[simp] theorem Tga.emit_touch (e : EvWord) : (t.emit e).touch i = t.touch i := by cases i <;> rfl
@[simp] theorem Tga.emit_active (e : EvWord) : (t.emit e).active i = t.active i := by cases i <;> rfl

@[simp] theorem Tga.setTouch_phase (v : PerTouch) : (t.setTouch i v).phase = t.phase := by cases i <;> rfl
@[simp] theorem Tga.markActive_phase (p : Pos) : (t.markActive i p).phase = t.phase := by cases i <;> rfl
@[simp] theorem Tga.markInactive_phase : (t.markInactive i).phase = t.phase := by cases i <;> rfl
@[simp] theorem Tga.setTouch_pointer (v : PerTouch) : (t.setTouch i v).pointer = t.pointer := by cases i <;> rfl
@[simp] theorem Tga.markActive_pointer (p : Pos) : (t.markActive i p).pointer = t.pointer := by cases i <;> rfl
@[simp] theorem Tga.markInactive_pointer : (t.markInactive i).pointer = t.pointer := by cases i <;> rfl
@[simp] theorem Tga.setTouch_empty (v : PerTouch) : (t.setTouch i v).empty = t.empty := by cases i <;> rfl
@[simp] theorem Tga.markActive_empty (p : Pos) : (t.markActive i p).empty = t.empty := by cases i <;> rfl
@[simp] theorem Tga.markInactive_empty : (t.markInactive i).empty = t.empty := by cases i <;> rfl
@[simp] theorem Tga.setTouch_outq (v : PerTouch) : (t.setTouch i v).outq = t.outq := by cases i <;> rfl
@[simp] theorem Tga.markActive_outq (p : Pos) : (t.markActive i p).outq = t.outq := by cases i <;> rfl
@[simp] theorem Tga.markInactive_outq : (t.markInactive i).outq = t.outq := by cases i <;> rfl
@[simp] theorem Tga.setTouch_irqPend (v : PerTouch) : (t.setTouch i v).irqPend = t.irqPend := by cases i <;> rfl
@[simp] theorem Tga.markActive_irqPend (p : Pos) : (t.markActive i p).irqPend = t.irqPend := by cases i <;> rfl
@[simp] theorem Tga.markInactive_irqPend : (t.markInactive i).irqPend = t.irqPend := by cases i <;> rfl
@[simp] theorem Tga.setTouch_timer (v : PerTouch) : (t.setTouch i v).timer = t.timer := by cases i <;> rfl
@[simp] theorem Tga.markActive_timer (p : Pos) : (t.markActive i p).timer = t.timer := by cases i <;> rfl
@[simp] theorem Tga.markInactive_timer : (t.markInactive i).timer = t.timer := by cases i <;> rfl
@[simp] theorem Tga.setTouch_same (v : PerTouch) : (t.setTouch i v).touch i = v := by cases i <;> rfl
theorem Tga.setTouch_other (v : PerTouch) {j : TouchId} (h : j ≠ i) : (t.setTouch i v).touch j = t.touch j := by
  cases i <;> cases j <;> first | rfl | exact absurd rfl h
@[simp] theorem Tga.setTouch_self : t.setTouch i (t.touch i) = t := by cases i <;> rfl

end

end Sys2Proof.Machine
end

