-- ==== Sys2Proof/Laws/Ops.lean ====
section
/-! SUPPORT. For each shared operation one lemma that says once everything it can do; proofs cite it instead of unfolding
the operation. -/

namespace Sys2Proof.Machine

/-! ## Queues -/

theorem queueFull_iff {α : Type} (cap : Nat) (q : List α) : queueFull cap q = true ↔ cap ≤ q.length := by
  simp [queueFull]

theorem queueTryPush_cases {α : Type} (cap : Nat) (q : List α) (m : α) :
    (cap ≤ q.length ∧ queueTryPush cap q m = q) ∨ (q.length < cap ∧ queueTryPush cap q m = q ++ [m]) := by
  unfold queueTryPush queuePush
  by_cases h : queueFull cap q = true
  · exact .inl ⟨(queueFull_iff cap q).1 h, by simp [h]⟩
  · have h' := (queueFull_iff cap q).not.1 h
    exact .inr ⟨by omega, by simp [h]⟩

theorem queueTryPop_cases {α : Type} (q : List α) :
    (q = [] ∧ queueTryPop q = none) ∨ ∃ m rest, q = m :: rest ∧ queueTryPop q = some (m, rest) := by
  cases q with
  | nil => exact .inl ⟨rfl, rfl⟩
  | cons m rest => exact .inr ⟨m, rest, rfl, rfl⟩

/-! ## Faults and calls -/

/-- What a fatal fault does, for each agent that can raise one. -/
theorem raiseFatal_cases (c : FatalCause) (s : State) :
    (causeAgent c = .tga ∧ raiseFatal c s = { s.output (.log (fatalLog c)) with tga := { s.tga with phase := .halt } })
    ∨ (causeAgent c = .pid ∧ raiseFatal c s = { s.output (.log (fatalLog c)) with pid := { s.pid with phase := .halt } })
    ∨ (causeAgent c = .adv ∧ raiseFatal c s = { s.output (.log (fatalLog c)) with adv := { s.adv with phase := .halt } }) := by
  cases c <;> simp [causeAgent, raiseFatal, haltAgent, State.output, State.setEnv, State.setTga, State.setPid, State.setAdv]

theorem callDevice_ok (call : Call) (c : FatalCause) (onOk : State → State) (s : State) :
    callDevice call .ok c onOk s = onOk (s.output (.call call .ok)) := rfl

theorem callDevice_err (call : Call) (c : FatalCause) (onOk : State → State) (s : State) :
    callDevice call .err c onOk s = raiseFatal c (s.output (.call call .err)) := rfl

theorem callRadio_ok (op : RadioOp) (c : FatalCause) (onOk : Adv → Adv) (s : State) (h : s.env.inp.radio = .ok) :
    callRadio op c onOk s = { s.output (.call (.radio op) .ok) with adv := onOk s.adv } := by
  unfold callRadio; rw [h]; rfl

theorem callRadio_err (op : RadioOp) (c : FatalCause) (onOk : Adv → Adv) (s : State) (h : s.env.inp.radio = .err) :
    callRadio op c onOk s = raiseFatal c (s.output (.call (.radio op) .err)) := by
  unfold callRadio; rw [h]; rfl

/-! ## Time -/

theorem timerAfter_toNat (ms : Nat) (t : Timer) : (timerAfter ms t).toNat = t.toNat - ms := by
  have := t.isLt
  simp only [timerAfter, BitVec.toNat_ofNat]
  omega

/-- Everything the passing of time does. -/
theorem elapseTime_eq (ms : Nat) (s : State) :
    elapseTime ms s =
      if s.sysOff then { s with env := { s.env with nowMs := s.env.nowMs + ms } }
      else { s with
        tga := { s.tga with timer := timerAfter ms s.tga.timer }
        pid := { s.pid with timer := timerAfter ms s.pid.timer }
        adv := { s.adv with timer := timerAfter ms s.adv.timer }
        dsp := { s.dsp with timer := timerAfter ms s.dsp.timer }
        env := { s.env with nowMs := s.env.nowMs + ms } } := by
  unfold elapseTime; split <;> simp_all [State.setEnv, State.setTga, State.setPid, State.setAdv, State.setDsp]

/-! ## TGA's per-point operations -/

/-- Everything the claim can do. -/
theorem Tga.claim_cases (t : Tga) (i : TouchId) :
    (t.pointer = none ∧ t.active i = false ∧ t.claim i = { t with pointer := some i })
    ∨ (¬ (t.pointer = none ∧ t.active i = false) ∧ t.claim i = t) := by
  unfold Tga.claim
  split
  · rename_i h; exact .inl ⟨h.1, h.2, rfl⟩
  · rename_i h; exact .inr ⟨h, rfl⟩

/-- Everything the visit of a gesture point can do: ignored, suppressed at the recorded position, moved, or pressed. -/
theorem Tga.gesturePoint_cases (t : Tga) (p : Point) :
    ((t.claim p.id).pointer ≠ some p.id ∧ t.gesturePoint p = t.claim p.id)
    ∨ ((t.claim p.id).pointer = some p.id ∧ ((t.claim p.id).touch p.id).last = p.pos ∧ t.gesturePoint p = t.claim p.id)
    ∨ ((t.claim p.id).pointer = some p.id ∧ (t.claim p.id).active p.id = true
        ∧ t.gesturePoint p = ((t.claim p.id).emit (pointerMoved p.pos)).markActive p.id p.pos)
    ∨ ((t.claim p.id).pointer = some p.id ∧ (t.claim p.id).active p.id = false
        ∧ t.gesturePoint p = ((t.claim p.id).emit (pointerPressed p.pos)).markActive p.id p.pos) := by
  unfold Tga.gesturePoint
  by_cases h1 : (t.claim p.id).pointer = some p.id
  · by_cases h2 : ((t.claim p.id).touch p.id).last = p.pos
    · exact .inr (.inl ⟨h1, h2, by simp [h1, h2]⟩)
    · cases h3 : (t.claim p.id).active p.id
      · exact .inr (.inr (.inr ⟨h1, rfl, by simp [h1, h2, h3]⟩))
      · exact .inr (.inr (.inl ⟨h1, rfl, by simp [h1, h2, h3]⟩))
  · exact .inl ⟨h1, by simp [h1]⟩

/-- Everything the visit of a button point can do: ignored, or the key of its band pressed. -/
theorem Tga.buttonPoint_cases (t : Tga) (p : Point) :
    t.buttonPoint p = t
    ∨ ∃ k, t.pointer ≠ some p.id ∧ t.active p.id = false ∧ keyzone p.x = some k
        ∧ t.buttonPoint p = (t.emit (keyPressed k)).markActive p.id p.pos := by
  unfold Tga.buttonPoint
  by_cases h1 : t.pointer = some p.id
  · exact .inl (by simp [h1])
  · cases h2 : t.active p.id
    · cases h3 : keyzone p.x with
      | none => exact .inl (by simp [h1])
      | some k => exact .inr ⟨k, h1, rfl, rfl, by simp [h1]⟩
    · exact .inl (by simp [h1])

/-- Everything the release of an id can do: the pointer's release and exit, a key's release, or (in no state a run reaches)
no event. -/
theorem Tga.releaseId_cases (t : Tga) (i : TouchId) :
    (t.pointer = some i ∧ t.releaseId i =
        { (((t.markInactive i).emit (pointerReleased (t.touch i).last)).emit pointerExited) with pointer := none })
    ∨ (∃ k, t.pointer ≠ some i ∧ keyzone (t.touch i).last.x = some k
        ∧ t.releaseId i = (t.markInactive i).emit (keyReleased k))
    ∨ (t.pointer ≠ some i ∧ keyzone (t.touch i).last.x = none ∧ t.releaseId i = t.markInactive i) := by
  unfold Tga.releaseId
  by_cases h1 : t.pointer = some i
  · exact .inl ⟨h1, by simp [h1]⟩
  · cases h2 : keyzone (t.touch i).last.x with
    | none => exact .inr (.inr ⟨h1, rfl, by simp [h1]⟩)
    | some k => exact .inr (.inl ⟨k, h1, rfl, by simp [h1]⟩)

/-- The release scan for one id: released exactly if announced and not seen. -/
theorem Tga.releaseIfAbsent_cases (seen : List TouchId) (i : TouchId) (t : Tga) :
    (t.active i = true ∧ i ∉ seen ∧ t.releaseIfAbsent seen i = t.releaseId i)
    ∨ ((t.active i = false ∨ i ∈ seen) ∧ t.releaseIfAbsent seen i = t) := by
  unfold Tga.releaseIfAbsent
  cases h1 : t.active i
  · exact .inr ⟨.inl rfl, by simp⟩
  · by_cases h2 : i ∈ seen
    · exact .inr ⟨.inr h2, by simp [h2]⟩
    · exact .inl ⟨rfl, h2, by simp [h2]⟩

/-! ## The visits of a sample -/

/-- A touch point item visits its point, whatever its `state` and bit 33. -/
theorem exec_touch (z : BitVec 1) (id : TouchId) (x y : Coord) (s : State) :
    exec (.tpPressed z id x y) s = .next (visitTouchPoint ⟨id, x, y⟩ s)
    ∧ exec (.tpReleased z id x y) s = .next (visitTouchPoint ⟨id, x, y⟩ s)
    ∧ exec (.tpMoved z id x y) s = .next (visitTouchPoint ⟨id, x, y⟩ s) := ⟨rfl, rfl, rfl⟩

/-- Every listed word is visited as its point, an item of the table or not. -/
theorem visitWord_eq (w : TpWord) (s : State) : visitWord w s = .next (visitTouchPoint (pointOf w) s) := by
  unfold visitWord decode decodeTp
  by_cases h0 : w.state = 0#2
  · simp [h0, exec, execTpPressed, pointOf]
  · by_cases h1 : w.state = 1#2
    · simp [h1, exec, execTpReleased, pointOf]
    · by_cases h2 : w.state = 2#2
      · simp [h2, exec, execTpMoved, pointOf]
      · simp [h0, h1, h2]

/-- TGA's registers after the visits of a list of words. -/
def Tga.visitAll (t : Tga) (ws : List TpWord) : Tga := ws.foldl (fun t w => t.visitPoint (pointOf w)) t

/-- The visits of a list touch TGA's registers alone. -/
theorem visitWords_eq (ws : List TpWord) (s : State) : visitWords ws s = .next (s.setTga (s.tga.visitAll ws)) := by
  induction ws generalizing s with
  | nil => rfl
  | cons w ws ih => simp [visitWords, visitWord_eq, ih, visitTouchPoint, Tga.visitAll]; rfl

/-- TGA's registers after a whole iteration. -/
def Tga.iterate (t : Tga) (l : List TpWord) : Tga :=
  { (t.visitAll (visitOrder l)).releaseScan (seenIds l) with empty := l.isEmpty, phase := .emit }

/-- An iteration touches TGA's registers alone. -/
theorem tgaIteration_eq (l : List TpWord) (s : State) : tgaIteration l s = .next (s.setTga (s.tga.iterate l)) := by
  simp only [tgaIteration, visitWords_eq]; rfl

/-- Everything the read step can do: the fault, or one iteration. -/
theorem tgaRead_cases (s : State) :
    (s.env.inp.touch = .err ∧ tgaRead s = .next (raiseFatal .touchRead (s.output (.call .touchRead .err))))
    ∨ ∃ sf, s.env.inp.touch = .ok sf
        ∧ tgaRead s = .next ((s.output (.call .touchRead .ok)).setTga (s.tga.iterate (framePoints sf))) := by
  unfold tgaRead
  cases h : s.env.inp.touch with
  | err => exact .inl ⟨rfl, rfl⟩
  | ok sf => exact .inr ⟨sf, rfl, by simp [tgaIteration_eq]⟩

/-! ## Scheduling -/

/-- A scheduled agent steps if it is enabled, else waits. -/
theorem scheduleAgent_cases (a : Agent) (inp : Inputs) (s : State) :
    ((s.setInputs inp).enabled a = true ∧ scheduleAgent a inp s = agentStep a (s.setInputs inp))
    ∨ ((s.setInputs inp).enabled a = false ∧ scheduleAgent a inp s = .next (s.setInputs inp)) := by
  unfold scheduleAgent
  cases h : (s.setInputs inp).enabled a
  · exact .inr ⟨rfl, by simp⟩
  · exact .inl ⟨rfl, by simp⟩

/-- No agent is enabled once the power is off. -/
theorem enabled_of_sysOff (s : State) (a : Agent) (h : s.sysOff = true) : s.enabled a = false := by
  simp [State.enabled, h]

/-! ## Waiting command senders of a script -/

/-- Everything the admission of waiting commands does: some of them, from the oldest, enter at the tail of `ctl_q`, none is
lost, and what is left waits only because the port is not ready. -/
theorem admitCommands_spec (ws : List CcWord) (s : State) :
    ∃ taken left, ws = taken ++ left ∧ admitCommands ws s = (s.setCtlQ (s.ctlQ ++ taken), left)
      ∧ (left = [] ∨ (s.setCtlQ (s.ctlQ ++ taken)).cmdReady = false) := by
  induction ws generalizing s with
  | nil => exact ⟨[], [], rfl, by simp [admitCommands, State.setCtlQ], .inl rfl⟩
  | cons w ws ih =>
    cases h : s.cmdReady
    · exact ⟨[], w :: ws, rfl, by simp [admitCommands, h, State.setCtlQ], .inr (by simpa [State.setCtlQ] using h)⟩
    · obtain ⟨taken, left, hw, ha, hl⟩ := ih (commandOffered w s)
      have hc : commandOffered w s = s.setCtlQ (s.ctlQ ++ [w]) := by simp [commandOffered, h, queuePush]
      refine ⟨w :: taken, left, by simp [hw], ?_, ?_⟩
      · simp only [admitCommands, h, if_true, ha]
        simp [hc, State.setCtlQ]
      · rw [hc] at hl
        simpa [State.setCtlQ] using hl

end Sys2Proof.Machine
end

