-- ==== Sys2Proof/Laws/PerInstr.lean ====
section
/-! SUPPORT. Statements about every item, one lemma per constructor: the message of an item travels in the format of its
opcode-table row. -/

namespace Sys2Proof.Laws

/-- The message of the item has the item's format. -/
def EncodeFormat.Statement (i : Instr) : Prop := (encode i).format = i.format

section
variable (z : BitVec 1) (id : TouchId) (x y : Coord) (u l : BitVec 3) (f : WindowFields)

theorem EncodeFormat.tpPressed : EncodeFormat.Statement (.tpPressed z id x y) := rfl
theorem EncodeFormat.tpReleased : EncodeFormat.Statement (.tpReleased z id x y) := rfl
theorem EncodeFormat.tpMoved : EncodeFormat.Statement (.tpMoved z id x y) := rfl
theorem EncodeFormat.start : EncodeFormat.Statement (.start u l) := rfl
theorem EncodeFormat.stop : EncodeFormat.Statement (.stop u l) := rfl
theorem EncodeFormat.setPower : EncodeFormat.Statement (.setPower u l) := rfl
theorem EncodeFormat.terminate : EncodeFormat.Statement (.terminate u l) := rfl
theorem EncodeFormat.evPtrPressed : EncodeFormat.Statement (.evPtrPressed f) := rfl
theorem EncodeFormat.evPtrMoved : EncodeFormat.Statement (.evPtrMoved f) := rfl
theorem EncodeFormat.evPtrReleased : EncodeFormat.Statement (.evPtrReleased f) := rfl
theorem EncodeFormat.evPtrExited : EncodeFormat.Statement (.evPtrExited f) := rfl
theorem EncodeFormat.evKeyPressed : EncodeFormat.Statement (.evKeyPressed f) := rfl
theorem EncodeFormat.evKeyReleased : EncodeFormat.Statement (.evKeyReleased f) := rfl
theorem EncodeFormat.evPmu (v : BitVec 33) (r b : BitVec 3) : EncodeFormat.Statement (.evPmu v r b) := rfl
theorem EncodeFormat.roSetAddr (a : Address) : EncodeFormat.Statement (.roSetAddr a) := rfl
theorem EncodeFormat.roSetTxpwr (p : BitVec 3) : EncodeFormat.Statement (.roSetTxpwr p) := rfl
theorem EncodeFormat.roSetAdv (m : AdvMode) (p : List Byte) : EncodeFormat.Statement (.roSetAdv m p) := rfl
theorem EncodeFormat.roStartAdv : EncodeFormat.Statement .roStartAdv := rfl
theorem EncodeFormat.roStopAdv : EncodeFormat.Statement .roStopAdv := rfl

end

end Sys2Proof.Laws
end

