-- ==== Sys2Proof/Tests/Slice0.lean ====
section
/-! SUPPORT. The model's own tests, few and small. Expected values come from the spec: the tables of 30_encoding.md and the
vectors of 95_test_vectors.md (named in each comment). After them, for each statement with hypotheses, a witness that meets
them. -/

namespace Sys2Proof.Tests

open Sys2Proof.Machine

/-! ## Well-formedness: each check refuses an ill-formed item -/

theorem test_wf_tp_bit33 : (Instr.tpPressed 1 .id0 5 5).wf = false := by decide
theorem test_wf_tp_released_bit33 : (Instr.tpReleased 1 .id0 5 5).wf = false := by decide
theorem test_wf_tp_moved_bit33 : (Instr.tpMoved 1 .id0 5 5).wf = false := by decide
theorem test_wf_start_unused : (Instr.start 1 0).wf = false := by decide
theorem test_wf_start_level : (Instr.start 0 1).wf = false := by decide
theorem test_wf_stop_unused : (Instr.stop 4 0).wf = false := by decide
theorem test_wf_stop_level : (Instr.stop 0 4).wf = false := by decide
theorem test_wf_setPower_unused : (Instr.setPower 1 3).wf = false := by decide
theorem test_wf_terminate_unused : (Instr.terminate 7 0).wf = false := by decide
theorem test_wf_terminate_level : (Instr.terminate 0 7).wf = false := by decide
theorem test_wf_pointer_reserved : (Instr.evPtrPressed ⟨1, 0, 0, 5, 5⟩).wf = false := by decide
theorem test_wf_pointer_key : (Instr.evPtrMoved ⟨0, 1, 0, 5, 5⟩).wf = false := by decide
theorem test_wf_pointer_button : (Instr.evPtrReleased ⟨0, 0, 1, 5, 5⟩).wf = false := by decide
theorem test_wf_exited_x : (Instr.evPtrExited ⟨0, 0, 0, 1, 0⟩).wf = false := by decide
theorem test_wf_exited_y : (Instr.evPtrExited ⟨0, 0, 0, 0, 1⟩).wf = false := by decide
theorem test_wf_exited_key : (Instr.evPtrExited ⟨0, 2, 0, 0, 0⟩).wf = false := by decide
theorem test_wf_key_reserved : (Instr.evKeyPressed ⟨1, 0, 0, 0, 0⟩).wf = false := by decide
theorem test_wf_key_three : (Instr.evKeyReleased ⟨0, 3, 0, 0, 0⟩).wf = false := by decide
theorem test_wf_key_button : (Instr.evKeyPressed ⟨0, 0, 1, 0, 0⟩).wf = false := by decide
theorem test_wf_key_x : (Instr.evKeyPressed ⟨0, 0, 0, 1, 0⟩).wf = false := by decide
theorem test_wf_key_y : (Instr.evKeyReleased ⟨0, 0, 0, 0, 1⟩).wf = false := by decide
theorem test_wf_pmu_unused : (Instr.evPmu 1 0 0).wf = false := by decide
theorem test_wf_pmu_good : (Instr.evPmu 0 7 7).wf = true := by decide
theorem test_legal_refuses_no_register : ({ (default : Params) with pmuNreg := 0 }).legal = false := by decide

/-! ## Decoding: a word of every constructor, written out from the tables of R71, R73, R74, R75 and R77 -/

/-- state 00, z 0, id 0, x = 50, y = 50 -/
theorem test_decode_tpPressed :
    decode (.tp 0b00_0_0_0000000000110010_0000000000110010) = .ok (.tpPressed 0 .id0 50 50) := by decide
/-- state 01, z 0, id 0, x = 5, y = 5 -/
theorem test_decode_tpReleased :
    decode (.tp 0b01_0_0_0000000000000101_0000000000000101) = .ok (.tpReleased 0 .id0 5 5) := by decide
/-- state 10, z 1, id 1, x = 300, y = 250 -/
theorem test_decode_tpMoved :
    decode (.tp 0b10_1_1_0000000100101100_0000000011111010) = .ok (.tpMoved 1 .id1 300 250) := by decide
theorem test_decode_start : decode (.cc 0b111_00_000) = .ok (.start 7 0) := by decide
theorem test_decode_stop : decode (.cc 0b001_01_011) = .ok (.stop 1 3) := by decide
theorem test_decode_setPower : decode (.cc 0b100_10_111) = .ok (.setPower 4 7) := by decide
theorem test_decode_terminate : decode (.cc 0b000_11_111) = .ok (.terminate 0 7) := by decide
/-- tag 0, reserved 0, kind 000, key 00, button 0, x = 50, y = 50 -/
theorem test_decode_evPtrPressed :
    decode (.ev 0b0_0_000_00_0_0000000000110010_0000000000110010) = .ok (.evPtrPressed ⟨0, 0, 0, 50, 50⟩) := by decide
theorem test_decode_evPtrMoved :
    decode (.ev 0b0_0_001_00_0_0000000001111000_0000000001101110) = .ok (.evPtrMoved ⟨0, 0, 0, 120, 110⟩) := by decide
theorem test_decode_evPtrReleased :
    decode (.ev 0b0_1_010_00_1_0000000000110010_0000000000110010) = .ok (.evPtrReleased ⟨1, 0, 1, 50, 50⟩) := by decide
theorem test_decode_evPtrExited :
    decode (.ev 0b0_0_011_00_0_0000000000000000_0000000000000000) = .ok (.evPtrExited ⟨0, 0, 0, 0, 0⟩) := by decide
theorem test_decode_evKeyPressed :
    decode (.ev 0b0_0_100_10_0_0000000000000000_0000000000000000) = .ok (.evKeyPressed ⟨0, 2, 0, 0, 0⟩) := by decide
theorem test_decode_evKeyReleased :
    decode (.ev 0b0_0_101_01_0_0000000000000000_0000000000000000) = .ok (.evKeyReleased ⟨0, 1, 0, 0, 0⟩) := by decide
/-- tag 1, zeros, reg 001, bit 100 -/
theorem test_decode_evPmu : decode (.ev 0x800000000C) = .ok (.evPmu 0 1 4) := by decide
theorem test_decode_roSetAddr :
    decode (.ro 0 [0xD2, 0x34, 0x56, 0x78, 0x9A, 0xBC]) = .ok (.roSetAddr ⟨0xD2, 0x34, 0x56, 0x78, 0x9A, 0xBC⟩) := by
  decide
theorem test_decode_roSetTxpwr : decode (.ro 1 [7]) = .ok (.roSetTxpwr 7) := by decide
theorem test_decode_roSetAdv : decode (.ro 2 [1, 0xAA, 0xBB]) = .ok (.roSetAdv .undirected [0xAA, 0xBB]) := by decide
theorem test_decode_roStartAdv : decode (.ro 3 []) = .ok .roStartAdv := by decide
theorem test_decode_roStopAdv : decode (.ro 4 []) = .ok .roStopAdv := by decide
theorem test_decode_reserved_kind : decode (.ev 0x3000000000) = .error .reservedEventKind := by decide
theorem test_decode_table_stop : decodeTableWord 8 0x08 = some (.stop 0 0) := by decide
theorem test_decode_table_startAdv : decodeTableWord 8 0x03 = some .roStartAdv := by decide
theorem test_decode_table_tp : decodeTableWord 36 0x800000000 = some (.tpMoved 0 .id0 0 0) := by decide

/-! ## States for the tests: the sample parameters of 95_test_vectors.md -/

/-- The conventions of 95_test_vectors.md, with pools of 5 and 3 entries. -/
def cfg : Params where
  pmuNreg := 2
  pmuMask := [0xFF, 0x0F]
  codePekShort := 1
  codeBatWarnL2 := 8
  codeBatWarnL1 := 9
  powerInit := 0
  poolLong := [[0, 0], [1, 1], [2, 2], [3, 3], [4, 4]]
  poolShort := [[10], [11], [12]]
  settleMs := 20
  tirqLatch := true
  evbArb := .any
  rngMode := .oracle
  rngSeed := 1

/-- Reset, with the sample parameters. -/
def base : State := State.powerOn cfg Env.fresh

/-- The next choice is `c`. -/
def next (c : Choice) (s : State) : State := s.setEnv { s.env with script := [c] }

/-- The agent `a` is next, with these inputs. -/
def run (a : Agent) (inp : Inputs) (s : State) : State := next (.agent a inp) s

/-- A sample of these points. -/
def sample (l : List TpWord) : Inputs := { Inputs.quiet with touch := .ok (encodeFrame l) }

/-- TGA about to read, with these registers. -/
def tga (a0 : Bool) (l0 : Pos) (a1 : Bool) (l1 : Pos) (ptr : Option TouchId) : Tga :=
  { Tga.reset with phase := .read, touch0 := ⟨a0, l0⟩, touch1 := ⟨a1, l1⟩, pointer := ptr }

/-- A fresh session. -/
def fresh : Tga := tga false ⟨0xFFFF, 0xFFFF⟩ false ⟨0xFFFF, 0xFFFF⟩ none

def withTga (t : Tga) : State := base.setTga t
def withPid (p : PPhase) (out : List EvWord) : State := base.setPid { base.pid with phase := p, outq := out }
def withAdv (p : APhase) : State := base.setAdv { base.adv with phase := p }
def withDsp (p : DPhase) (q : List EvWord) : State := (base.setDsp { base.dsp with phase := p }).setEvbQ q
def full : List EvWord := List.replicate 32 0x8000000000

/-- What a step does to one part of the state. -/
def after {α : Type} (s : State) (f : State → α) : Option α :=
  match step s with
  | .next t => some (f t)
  | .fault _ => none
  | .refused _ => none

/-- The events an iteration over a sample puts into `t_outq`. -/
def events (t : Tga) (l : List TpWord) : Option (List EvWord) :=
  after (run .tga (sample l) (withTga t)) (fun u => u.tga.outq)

/-! ## Steps -/

/-- V1 -/
theorem test_scenarioA_press : events fresh [0x000320032] = some [0x0000320032] := by decide
theorem test_scenarioA_duplicate : events (tga true ⟨50, 50⟩ false ⟨0, 0⟩ (some .id0)) [0x800320032] = some [] := by decide
theorem test_scenarioA_release :
    events (tga true ⟨50, 50⟩ false ⟨0, 0⟩ (some .id0)) [] = some [0x1000320032, 0x1800000000] := by decide
/-- V3 -/
theorem test_scenarioC : events fresh [0x000640064, 0x1012C00FA] = some [0x0000640064, 0x2400000000] := by decide
/-- V26: the second contact claims only after the owner's release -/
theorem test_late_pointer :
    events (tga true ⟨10, 10⟩ false ⟨0xFFFF, 0xFFFF⟩ (some .id0)) [0x900150015] = some [0x10000A000A, 0x1800000000] := by
  decide
/-- V27: gesture points first whatever the list order -/
theorem test_gesture_pass_first : events fresh [0x1012C00FA, 0x000640064] = some [0x0000640064, 0x2400000000] := by decide
/-- V30: `state` is ignored -/
theorem test_released_state_is_presence : events fresh [0x400050005] = some [0x0000050005] := by decide
/-- V40 -/
theorem test_pid_decode : pidDecode cfg [0x03, 0x90] = [0x8000000000, 0x8000000001] := by decide
/-- V42 -/
theorem test_pid_drops : after (run .pid Inputs.quiet ((withPid .emit [0x8000000001]).setEvbQ full))
    (fun t => (t.evbQ.length, t.pid.outq)) = some (32, []) := by decide
/-- V50, first and second row -/
theorem test_synth_long : synthProfile cfg 7 0x12345678 0x9ABCDEF0
    = ⟨[3, 3], ⟨0xD2, 0x34, 0x56, 0x78, 0x9A, 0xBC⟩, .nonConnectable, 7⟩ := by decide
theorem test_synth_short : synthProfile cfg 7 0x00000007 0xFFFFFFFF
    = ⟨[10], ⟨0xC0, 0, 0, 7, 0xFF, 0xFF⟩, .undirected, 7⟩ := by decide
/-- V52 -/
theorem test_lfsr_first_draw : lfsrDraw 1 = 0x8A0F3DB5 := by
  simp [lfsrDraw, lfsrShifts, lfsrShift, Config.lfsrMask]
theorem test_lfsr_second_draw : lfsrDraw 0x8A0F3DB5 = 0x90BD2FA6 := by
  simp [lfsrDraw, lfsrShifts, lfsrShift, Config.lfsrMask]
/-- V51 -/
theorem test_terminate_leaves_queue : after (run .adv Inputs.quiet ((withAdv .drain).setCtlQ [0x18, 0x00]))
    (fun t => (t.adv.phase, t.ctlQ)) = some (.term, [0x00]) := by decide
theorem test_setPower : after (run .adv Inputs.quiet ((withAdv .drain).setCtlQ [0x13])) (fun t => t.adv.power) = some 3 := by
  decide
/-- V53 -/
theorem test_radio_stop_fails : after (run .adv { Inputs.quiet with radio := .err } (withAdv .stop))
    (fun t => (t.adv.phase, t.env.outs)) = some (.halt, [.call (.radio .stopAdv) .err, .log 0x28]) := by decide
/-- U14, R290: after power-off the third command is accepted, the fourth is not -/
theorem test_command_after_power_off :
    after ((next (.command 8) (base.setCtlQ [1, 2])).setSysOff true) (fun t => t.ctlQ) = some [1, 2, 8]
    ∧ after ((next (.command 8) (base.setCtlQ [1, 2, 3])).setSysOff true) (fun t => t.ctlQ) = some [1, 2, 3] := by decide
/-- V61 -/
theorem test_gate_forwards : after (run .dsp Inputs.quiet (withDsp .drain [0x2200000000])) (fun t => t.env.outs)
    = some [.uiEvent 0x2200000000] := by decide
/-- V62 -/
theorem test_pek_locks : after (run .dsp Inputs.quiet (withDsp .drain [0x8000000001]))
    (fun t => (t.dsp.lock, t.dsp.backlight)) = some (true, false) := by decide
theorem test_l1_powers_off : after (run .dsp Inputs.quiet (withDsp .drain [0x8000000009, 0x2000000000]))
    (fun t => (t.sysOff, t.env.outs, t.evbQ)) = some (true, [.powerOff], [0x2000000000]) := by decide
theorem test_other_code_logged : after (run .dsp Inputs.quiet (withDsp .drain [0x8000000000])) (fun t => t.env.outs)
    = some [.log 0x40] := by decide
/-- R30's codes at the output ports: at reset, and after the level-2 warning -/
theorem test_led_port : base.ledPattern = 0 ∧ base.backlightEn = 1
    ∧ after (run .dsp Inputs.quiet (withDsp .drain [0x8000000008])) (fun t => t.ledPattern) = some 1 := by decide
/-- V64 -/
theorem test_tick_anim : after (run .dsp { Inputs.quiet with uiDamage := true, uiAnim := true } (withDsp .redraw []))
    (fun t => (t.env.outs, t.dsp.timer)) = some ([.redraw], 10) := by decide
/-- V60: the fourth command waits -/
theorem test_fourth_command_waits : after (next (.command 0x08) (base.setCtlQ [0, 0x17, 8])) (fun t => t.ctlQ)
    = some [0, 0x17, 8] := by decide
/-- P5: the second and third lines of a script, by R83 -/
theorem test_script_step : (scriptLines [.tirq, .step .tga] base ScriptPorts.none).1.tga.phase = .read := by decide
/-- V60, R290: a fourth command waits for room and is then taken; it is the last `SetPower` -/
theorem test_script_waiting_command :
    (scriptLines [.cmd 0x17, .cmd 0x16, .cmd 0x15, .cmd 0x14] base ScriptPorts.none).2.waiting = [0x14]
    ∧ (scriptLines [.cmd 0x17, .cmd 0x16, .cmd 0x15, .cmd 0x14, .run .adv] base ScriptPorts.none).1.adv.power = 4 := by decide
/-- the machine runs the item placed for it, the first after reset -/
theorem test_withFetchWord_start : after (State.reset.withFetchWord 8 0x00) (fun t => t.adv.running) = some true := by decide
theorem test_withFetchWord_stopAdv : after (State.reset.withFetchWord 8 0x04) (fun t => t.adv.phase) = some .settle := by
  decide

/-! ## Witnesses: for each statement with hypotheses, states and operands that meet them, each clause at a boundary -/

theorem witness_EncodeOfDecodedMessage : decode (.ro 1 [7]) = .ok (.roSetTxpwr 7) := by decide

theorem witness_EveryCommandWordDecodes :
    (0xE7#8).extractLsb' 3 2 = 0#2 ∧ (0x08#8).extractLsb' 3 2 = 1#2 ∧ (0x10#8).extractLsb' 3 2 = 2#2
    ∧ (0xFF#8).extractLsb' 3 2 = 3#2 := by decide

theorem witness_ReservedEncodingsHaveNoItem :
    (0xC00000000#36).extractLsb' 34 2 = 3#2 ∧ (0xBFFFFFFFF#36).extractLsb' 34 2 ≠ 3#2
    ∧ ((0x3000000000#40).getLsbD 39 = false ∧ (0x3000000000#40).extractLsb' 35 3 = 6#3)
    ∧ ((0x7FFFFFFFFF#40).getLsbD 39 = false ∧ (0x7FFFFFFFFF#40).extractLsb' 35 3 = 7#3)
    ∧ ((0x2FFFFFFFFF#40).extractLsb' 35 3 = 5#3) ∧ (0xB000000000#40).getLsbD 39 = true := by decide

def wCommand : State := run .adv Inputs.quiet ((withAdv .drain).setCtlQ [0x08, 0x00])
theorem witness_StepRunsTheCommand : wCommand.nextChoice = .agent .adv Inputs.quiet ∧ wCommand.sysOff = false
    ∧ wCommand.adv.phase = .drain ∧ wCommand.ctlQ = [0x08, 0x00] ∧ decode (.cc 0x08) = .ok (.stop 0 0) := by decide

def wEvent : State := run .dsp Inputs.quiet (withDsp .drain [0x2200000000])
theorem witness_StepRunsTheEvent : wEvent.nextChoice = .agent .dsp Inputs.quiet ∧ wEvent.sysOff = false
    ∧ wEvent.dsp.phase = .drain ∧ wEvent.evbQ = [0x2200000000]
    ∧ decode (.ev 0x2200000000) = .ok (.evKeyPressed ⟨0, 1, 0, 0, 0⟩) := by decide

/-- TGA about to read this sample, with these registers. -/
def wSample (t : Tga) (l : List TpWord) : State := run .tga (sample l) (withTga t)

/-- What the statements about a sample suppose. -/
def reads (t : Tga) (l : List TpWord) : Prop :=
  (wSample t l).nextChoice = .agent .tga (sample l) ∧ (wSample t l).sysOff = false ∧ (wSample t l).tga.phase = .read
    ∧ (sample l).touch = .ok (encodeFrame l)

theorem reads_of_read (t : Tga) (l : List TpWord) (h : t.phase = .read) : reads t l := ⟨rfl, rfl, h, rfl⟩

/-- each count -/
theorem witness_StepRunsTheTouchPoints_count :
    (0#74).extractLsb' 72 2 = 0#2 ∧ (encodeFrame [5]).extractLsb' 72 2 = 1#2 ∧ (encodeFrame [5, 6]).extractLsb' 72 2 = 2#2
    ∧ (3#2 ++ (5 : TpWord) ++ (6 : TpWord)).extractLsb' 72 2 = 3#2 := by decide

/-- one point; two points listed gesture first; two points listed button first -/
theorem witness_StepRunsTheTouchPoints :
    reads fresh [0x0000A00EF] ∧ framePoints (encodeFrame [0x0000A00EF]) = [0x0000A00EF]
    ∧ decode (.tp 0x0000A00EF) = .ok (.tpPressed 0 .id0 10 239)
    ∧ reads fresh [0x0000A00EF, 0x1000A00F0] ∧ framePoints (encodeFrame [0x0000A00EF, 0x1000A00F0]) = [0x0000A00EF, 0x1000A00F0]
    ∧ decode (.tp 0x1000A00F0) = .ok (.tpPressed 0 .id1 10 240)
    ∧ framePoints (encodeFrame [0x1000A00F0, 0x0000A00EF]) = [0x1000A00F0, 0x0000A00EF] := by
  refine ⟨reads_of_read _ _ rfl, ?_, ?_, reads_of_read _ _ rfl, ?_⟩ <;> decide

def wAdv (p : APhase) : State := run .adv Inputs.quiet (withAdv p)
theorem witness_StepIssuesTheRadioOperation :
    (∀ p, (wAdv p).nextChoice = .agent .adv Inputs.quiet ∧ (wAdv p).sysOff = false)
    ∧ (wAdv .setAddr).adv.phase = .setAddr ∧ (wAdv .setPwr).adv.phase = .setPwr ∧ (wAdv .setAdv).adv.phase = .setAdv
    ∧ (wAdv .start).adv.phase = .start ∧ (wAdv .stop).adv.phase = .stop :=
  ⟨fun _ => ⟨rfl, rfl⟩, rfl, rfl, rfl, rfl, rfl⟩

/-- not the owner; the owner at its recorded position; claiming; the owner at a new position; `y` = 239 and 0 -/
theorem witness_GesturePointMeaning :
    (239#16).toNat < 240 ∧ (0#16).toNat < 240
    ∧ ¬ ((tga true ⟨5, 5⟩ false ⟨0, 0⟩ (some .id0)).pointer = some .id1
        ∨ ((tga true ⟨5, 5⟩ false ⟨0, 0⟩ (some .id0)).pointer = none
          ∧ (tga true ⟨5, 5⟩ false ⟨0, 0⟩ (some .id0)).active .id1 = false))
    ∧ ((tga true ⟨5, 239⟩ false ⟨0, 0⟩ (some .id0)).pointer = some .id0
        ∧ ((tga true ⟨5, 239⟩ false ⟨0, 0⟩ (some .id0)).touch .id0).last = ⟨5, 239⟩)
    ∧ (fresh.pointer = none ∧ fresh.active .id0 = false ∧ (fresh.touch .id0).last ≠ ⟨5, 239⟩)
    ∧ ((tga true ⟨5, 0⟩ false ⟨0, 0⟩ (some .id0)).active .id0 = true
        ∧ ((tga true ⟨5, 0⟩ false ⟨0, 0⟩ (some .id0)).touch .id0).last ≠ ⟨5, 239⟩) := by decide

/-- the owner; an announced key; `x` = 320; the bands at 0, 106, 107, 213, 214, 319 -/
theorem witness_ButtonPointMeaning :
    240 ≤ (240#16).toNat ∧ 240 ≤ (65535#16).toNat
    ∧ (tga true ⟨5, 5⟩ false ⟨0, 0⟩ (some .id0)).pointer = some .id0 ∧ (tga true ⟨5, 250⟩ false ⟨0, 0⟩ none).active .id0 = true
    ∧ 320 ≤ (320#16).toNat ∧ fresh.pointer ≠ some .id0 ∧ fresh.active .id0 = false
    ∧ (0#16).toNat < 107 ∧ (106#16).toNat < 107 ∧ ¬ (107#16).toNat < 107 ∧ (213#16).toNat < 214 ∧ ¬ (214#16).toNat < 214
    ∧ (319#16).toNat < 320 := by decide

def wSession : State := run .tga Inputs.quiet (withTga { Tga.reset with irqPend := true })
def wNoEdge : State := run .tga Inputs.quiet (withTga Tga.reset)
/-- an edge latched; none -/
theorem witness_SessionStarts :
    (wSession.nextChoice = .agent .tga Inputs.quiet ∧ wSession.sysOff = false
      ∧ wSession.tga.phase = .wait ∧ wSession.tga.irqPend = true)
    ∧ wNoEdge.nextChoice = .agent .tga Inputs.quiet ∧ wNoEdge.sysOff = false
      ∧ wNoEdge.tga.phase = .wait ∧ wNoEdge.tga.irqPend = false := by decide

/-- a pointer and a key are announced -/
def both : Tga := tga true ⟨50, 50⟩ true ⟨300, 250⟩ (some .id0)
theorem both_inv : TouchInv both :=
  ⟨fun h => absurd h (by decide), fun h => absurd h (by decide), by intro i; cases i <;> decide⟩

theorem points_of_gesture : framePoints (encodeFrame [0x800320032]) = [0x800320032] := by decide
theorem points_of_button : framePoints (encodeFrame [0x9012C00FA]) = [0x9012C00FA] := by decide

/-- a pointer and a key; keys at the ends of the bands and beyond -/
theorem witness_EmptySampleReleasesAll : reads both [] ∧ (encodeFrame []).extractLsb' 72 2 = 0#2
    ∧ ∀ x, x ∈ [0#16, 106, 107, 213, 214, 319, 320, 65535] → reads (tga true ⟨x, 250⟩ false ⟨0, 0⟩ none) [] :=
  ⟨reads_of_read _ _ rfl, by decide, fun _ _ => reads_of_read _ _ rfl⟩

/-- the absent pointer, and the absent key -/
theorem witness_AbsentContactIsReleased :
    (reads both [0x9012C00FA] ∧ both.active .id0 = true ∧ (∀ w ∈ framePoints (encodeFrame [0x9012C00FA]), w.id ≠ .id0)
      ∧ both.pointer = some .id0 ∧ TouchInv both ∧ ∃ t, step (wSample both [0x9012C00FA]) = .next t)
    ∧ (reads both [0x800320032] ∧ both.active .id1 = true ∧ (∀ w ∈ framePoints (encodeFrame [0x800320032]), w.id ≠ .id1)
      ∧ both.pointer ≠ some .id1 ∧ ∃ t, step (wSample both [0x800320032]) = .next t) :=
  ⟨⟨reads_of_read _ _ rfl, by decide, by simp only [points_of_button, List.mem_singleton, forall_eq]; decide, by decide, both_inv, _, rfl⟩,
    reads_of_read _ _ rfl, by decide, by simp only [points_of_gesture, List.mem_singleton, forall_eq]; decide, by decide, _, rfl⟩

theorem witness_RoleIsLatched : reads both [0x800320032] ∧ both.active .id0 = true
    ∧ (∃ w ∈ framePoints (encodeFrame [0x800320032]), w.id = .id0) ∧ ∃ t, step (wSample both [0x800320032]) = .next t :=
  ⟨reads_of_read _ _ rfl, by decide, by simp only [points_of_gesture, List.mem_singleton, exists_eq_left]; decide, _, rfl⟩

theorem witness_PressesAndReleasesBalance : reads both [] ∧ TouchInv both ∧ ∃ t, step (wSample both []) = .next t :=
  ⟨reads_of_read _ _ rfl, both_inv, _, rfl⟩

/-- the pointer at its recorded position; the pointer in the button zone; a key -/
theorem witness_RepeatedObservationIsSuppressed :
    let p := tga true ⟨50, 50⟩ false ⟨0, 0⟩ (some .id0)
    let k := tga true ⟨50, 250⟩ false ⟨0, 0⟩ none
    (reads p [0x800320032] ∧ framePoints (encodeFrame [0x800320032]) = [0x800320032] ∧ p.active .id0 = true
      ∧ (∀ j, j ≠ TouchId.id0 → p.active j = false) ∧ (p.touch .id0).last = ⟨50, 50⟩)
    ∧ (reads p [0x8003200F0] ∧ 240 ≤ (TpWord.y 0x8003200F0).toNat)
    ∧ (reads k [0x800320032] ∧ k.active .id0 = true ∧ (∀ j, j ≠ TouchId.id0 → k.active j = false)
      ∧ k.pointer ≠ some .id0) :=
  ⟨⟨reads_of_read _ _ rfl, by decide, by decide, by intro j; cases j <;> decide, by decide⟩,
    ⟨reads_of_read _ _ rfl, by decide⟩,
    reads_of_read _ _ rfl, by decide, by intro j; cases j <;> decide, by decide⟩

theorem witness_IterationEmitsAtMostThree : reads both [0x900150015] ∧ ∃ t, step (wSample both [0x900150015]) = .next t :=
  ⟨reads_of_read _ _ rfl, _, rfl⟩

/-- the same point as pressed and, with bit 33 set, as moved; the second machine is locked -/
theorem witness_IterationReadsOnlyPointsAndTga :
    reads fresh [0x000320032] ∧ reads fresh [0xA00320032]
    ∧ (framePoints (encodeFrame [0x000320032])).map (fun w => (w.id, w.x, w.y))
        = (framePoints (encodeFrame [0xA00320032])).map (fun w => (w.id, w.x, w.y))
    ∧ (∃ t, step (wSample fresh [0x000320032]) = .next t) ∧ ∃ t, step (wSample fresh [0xA00320032]) = .next t :=
  ⟨reads_of_read _ _ rfl, reads_of_read _ _ rfl, by decide, ⟨_, rfl⟩, _, rfl⟩

def errTouch : Inputs := { Inputs.quiet with touch := .err }
theorem witness_FailedReadHaltsItsAgent_tga :
    (run .tga errTouch (withTga both)).nextChoice = .agent .tga errTouch ∧ (run .tga errTouch (withTga both)).sysOff = false
    ∧ (run .tga errTouch (withTga both)).tga.phase = .read ∧ errTouch.touch = .err := by decide

/-- TGA in its send with these words left, and this bus. -/
def wTgaSend (out q : List EvWord) (c : Params) : State :=
  run .tga Inputs.quiet { withPid .emit [0x8000000000] with tga := { Tga.reset with phase := .emit, outq := out }, evbQ := q, cfg := c }
/-- nothing left; room for one; full; PID first -/
theorem witness_TgaSendsOrWaits :
    (∀ out q c, (wTgaSend out q c).nextChoice = .agent .tga Inputs.quiet ∧ (wTgaSend out q c).sysOff = false
      ∧ (wTgaSend out q c).tga.phase = .emit ∧ (wTgaSend out q c).tga.outq = out ∧ (wTgaSend out q c).evbQ = q
      ∧ (wTgaSend out q c).cfg = c ∧ (wTgaSend out q c).pid.phase = .emit ∧ (wTgaSend out q c).pid.outq ≠ [])
    ∧ (full.drop 1).length = 31 ∧ full.length = 32 ∧ cfg.evbArb ≠ .pmuFirst ∧ { cfg with evbArb := .pmuFirst }.evbArb = .pmuFirst :=
  ⟨fun _ _ _ => ⟨rfl, rfl, rfl, rfl, rfl, rfl, rfl, by simp [wTgaSend, run, next, withPid, State.setPid, State.setEnv]⟩, by decide⟩

def wTgaSleep (e : Bool) (tm : Timer) : State := run .tga Inputs.quiet (withTga { Tga.reset with phase := .sleep, empty := e, timer := tm })
theorem witness_TgaWakes : ∀ e tm, (wTgaSleep e tm).nextChoice = .agent .tga Inputs.quiet ∧ (wTgaSleep e tm).sysOff = false
    ∧ (wTgaSleep e tm).tga.phase = .sleep ∧ (wTgaSleep e tm).tga.empty = e ∧ (wTgaSleep e tm).tga.timer = tm :=
  fun _ _ => ⟨rfl, rfl, rfl, rfl, rfl⟩

def wPid (p : PPhase) (inp : Inputs) (tm : Timer) : State := run .pid inp (base.setPid { base.pid with phase := p, timer := tm })
theorem witness_PidSteps : ∀ p inp tm, (wPid p inp tm).nextChoice = .agent .pid inp ∧ (wPid p inp tm).sysOff = false
    ∧ (wPid p inp tm).pid.phase = p ∧ (wPid p inp tm).pid.timer = tm := fun _ _ _ => ⟨rfl, rfl, rfl, rfl⟩
theorem witness_PidWaitsForTheLine :
    ({ Inputs.quiet with pirq := true }).pirq = true ∧ Inputs.quiet.pirq = false ∧ (1 : Timer) ≠ 0 := by decide
theorem witness_PidReadsThenClears : Inputs.quiet.pmuRead = .ok 0 ∧ Inputs.quiet.pmuClear = .ok := by decide
theorem witness_PidDecodesTheKeptBits : cfg.pmuNreg ≤ 8 ∧ ({ cfg with pmuNreg := 8 }).pmuNreg ≤ 8 := by decide
theorem witness_FailedReadHaltsItsAgent_pid : ({ Inputs.quiet with pmuRead := .err }).pmuRead = .err
    ∧ ({ Inputs.quiet with pmuClear := .err }).pmuClear = .err := by decide

/-- PID in its send with these words left, and this bus. -/
def wPidSend (out q : List EvWord) (c : Params) : State :=
  run .pid Inputs.quiet { withPid .emit out with tga := { Tga.reset with phase := .emit, outq := [0] }, evbQ := q, cfg := c }
/-- nothing left; room for one; full; touch first -/
theorem witness_PidSendsOrDrops :
    (∀ out q c, (wPidSend out q c).nextChoice = .agent .pid Inputs.quiet ∧ (wPidSend out q c).sysOff = false
      ∧ (wPidSend out q c).pid.phase = .emit ∧ (wPidSend out q c).pid.outq = out ∧ (wPidSend out q c).evbQ = q
      ∧ (wPidSend out q c).cfg = c ∧ (wPidSend out q c).tga.phase = .emit ∧ (wPidSend out q c).tga.outq = [0])
    ∧ (full.drop 1).length = 31 ∧ full.length = 32 ∧ cfg.evbArb ≠ .touchFirst
    ∧ ({ cfg with evbArb := .touchFirst }).evbArb = .touchFirst :=
  ⟨fun _ _ _ => ⟨rfl, rfl, rfl, rfl, rfl, rfl, rfl, rfl⟩, by decide⟩

theorem witness_CommandsHaveTheirOneEffect : ((withAdv .hold).setAdv { base.adv with running := true }).adv.running = true := by decide

/-- ADV in a phase, with this running flag, timer and mode of draws. -/
def wAdvAt (p : APhase) (r : Bool) (tm : Timer) (m : RngMode) : State :=
  run .adv Inputs.quiet { withAdv p with adv := { base.adv with phase := p, running := r, timer := tm }, cfg := { cfg with rngMode := m } }
/-- for AdvDrainEndsAndAdvWakes, SynthesisBuildsTheProfile and SynthesisFromReferenceGenerator: every phase, flag, timer, mode -/
theorem witness_AdvSteps : ∀ p r tm m, (wAdvAt p r tm m).nextChoice = .agent .adv Inputs.quiet ∧ (wAdvAt p r tm m).sysOff = false
    ∧ (wAdvAt p r tm m).adv.phase = p ∧ (wAdvAt p r tm m).adv.running = r ∧ (wAdvAt p r tm m).adv.timer = tm
    ∧ (wAdvAt p r tm m).ctlQ = [] ∧ (wAdvAt p r tm m).cfg.rngMode = m := fun _ _ _ _ => ⟨rfl, rfl, rfl, rfl, rfl, rfl, rfl⟩
theorem witness_AdvDrainEndsAndAdvWakes_drain : (wAdvAt .drain true 0 .oracle).adv.running = true ∧ (wAdvAt .drain false 0 .oracle).adv.running = false := by
  decide
theorem witness_AdvDrainEndsAndAdvWakes_wake : (wAdvAt .idle true 1 .oracle).adv.timer ≠ 0 ∧ (wAdvAt .hold true 0 .oracle).adv.timer = 0
    ∧ (wAdvAt .settle true 0 .oracle).adv.phase = .settle := by decide
theorem witness_SynthesisBuildsTheProfile : (wAdvAt .synth true 0 .oracle).cfg.rngMode = .oracle := by decide
theorem witness_SynthesisFromReferenceGenerator : (wAdvAt .synth true 0 .lfsr32).cfg.rngMode = .lfsr32 := by decide
theorem witness_SynthesisFromReferenceGenerator_shift : (1#32).getLsbD 0 = true ∧ (2#32).getLsbD 0 = false ∧ (1#32) ≠ 0 := by decide
theorem witness_RadioOperationsComplete : (withAdv .setAddr).env.inp.radio = .ok := by decide
theorem witness_RadioFailureHaltsAdv :
    ((withAdv .setAddr).setInputs { Inputs.quiet with radio := .err }).env.inp.radio = .err := by decide

/-- locked and unlocked -/
theorem witness_WindowEventsPassTheGate :
    (Instr.evKeyReleased ⟨0, 0, 0, 0, 0⟩, 5#3) ∈ [(Instr.evPtrPressed ⟨0, 0, 0, 0, 0⟩, 0#3), (Instr.evKeyReleased ⟨0, 0, 0, 0, 0⟩, 5#3)]
    ∧ (base.setDsp base.dsp.toggleLock).dsp.lock = true ∧ base.dsp.lock = false := by decide

def wReserved (l : Bool) (w : EvWord) : State := run .dsp Inputs.quiet ((withDsp .drain [w]).setDsp { base.dsp with lock := l })
theorem witness_ReservedKindsPassTheGate :
    (∀ l w, (wReserved l w).nextChoice = .agent .dsp Inputs.quiet ∧ (wReserved l w).sysOff = false
      ∧ (wReserved l w).dsp.phase = .drain ∧ (wReserved l w).evbQ = [w] ∧ (wReserved l w).dsp.lock = l)
    ∧ (0x3000000000#40).getLsbD 39 = false ∧ 6 ≤ ((0x3000000000#40).extractLsb' 35 3).toNat :=
  ⟨fun _ _ => ⟨rfl, rfl, rfl, rfl, rfl⟩, by decide⟩

def wDsp (p : DPhase) (inp : Inputs) (tm : Timer) : State := run .dsp inp (base.setDsp { base.dsp with phase := p, timer := tm })
theorem witness_DspTickGoesOn : ∀ p inp tm, (wDsp p inp tm).nextChoice = .agent .dsp inp ∧ (wDsp p inp tm).sysOff = false
    ∧ (wDsp p inp tm).dsp.phase = p ∧ (wDsp p inp tm).evbQ = [] ∧ (wDsp p inp tm).dsp.timer = tm :=
  fun _ _ _ => ⟨rfl, rfl, rfl, rfl, rfl⟩

/-- latched during a session; lost with `TIRQ_LATCH = false` -/
theorem witness_TouchEdgeIsLatched :
    (next .touchEdge (withTga fresh)).nextChoice = .touchEdge ∧ (next .touchEdge (withTga fresh)).sysOff = false
    ∧ (withTga fresh).cfg.tirqLatch = true ∧ ({ withTga fresh with cfg := { cfg with tirqLatch := false } }).cfg.tirqLatch = false
    ∧ (withTga fresh).tga.phase ≠ .wait ∧ base.tga.phase = .wait := by decide

theorem witness_CommandPortTakesThree :
    (next (.command 8) base).nextChoice = .command 8 ∧ ((next (.command 8) base).setSysOff true).nextChoice = .command 8
    ∧ (base.setCtlQ [0, 0]).ctlQ.length < 3 ∧ 3 ≤ (base.setCtlQ [0, 0, 0]).ctlQ.length := by decide

/-- a push by TGA, a push by PID, a pop by DSP, a reset -/
theorem witness_BusChangesOnlyAtItsEnds :
    (∃ t, step (wTgaSend [1] [] cfg) = .next t) ∧ (∃ t, step (wPidSend [1] [] cfg) = .next t)
    ∧ (∃ t, step wEvent = .next t) ∧ ∃ t, step (next .powerOnReset wEvent) = .next t :=
  ⟨⟨_, rfl⟩, ⟨_, rfl⟩, ⟨_, rfl⟩, _, rfl⟩

theorem witness_AgentsWriteOnlyTheirOwn : wCommand.nextChoice = .agent .adv Inputs.quiet ∧ ∃ t, step wCommand = .next t :=
  ⟨rfl, _, rfl⟩

def wElapse : State := next (.elapse 20) (withTga { Tga.reset with phase := .sleep, timer := 20 })
theorem witness_TimersCountDown : wElapse.nextChoice = .elapse 20 ∧ wElapse.sysOff = false ∧ ∃ t, step wElapse = .next t :=
  ⟨rfl, rfl, _, rfl⟩

def wQuery : State := next .elapsedQuery (base.setStartInstant (some 0))
/-- a later query, the first query, and one after power-off -/
theorem witness_ElapsedTimeIsMonotone_query :
    (next .elapsedQuery base).nextChoice = .elapsedQuery ∧ (next .elapsedQuery base).startInstant = none
    ∧ (next .elapsedQuery base).sysOff = false ∧ (wQuery.setSysOff true).nextChoice = .elapsedQuery
    ∧ (wQuery.setSysOff true).sysOff = true := by decide
theorem witness_ElapsedTimeIsMonotone : wQuery.nextChoice = .elapsedQuery ∧ wQuery.nextChoice ≠ .powerOnReset
    ∧ wQuery.startInstant = some 0 ∧ wQuery.sysOff = false ∧ ∃ t, step wQuery = .next t :=
  ⟨rfl, by decide, rfl, rfl, _, rfl⟩

theorem witness_UiPowerOffActsAtOnce : (next .uiPowerOff base).nextChoice = .uiPowerOff ∧ (next .uiPowerOff base).sysOff = false := by
  decide

def wOff : State := (next .touchEdge base).setSysOff true
theorem witness_PowerOffStopsEverything : wOff.sysOff = true ∧ wOff.nextChoice ≠ .powerOnReset
    ∧ (∀ w, wOff.nextChoice ≠ .command w) ∧ ∃ t, step wOff = .next t :=
  ⟨rfl, by decide, fun _ h => Choice.noConfusion (show Choice.touchEdge = _ from h), _, rfl⟩
/-- a command after power-off, with room and with none -/
theorem witness_PowerOffStopsEverything_command : ∀ q, let s := ((next (.command 8) base).setSysOff true).setCtlQ q
    s.sysOff = true ∧ s.nextChoice = .command 8 ∧ s.ctlQ = q := fun _ => ⟨rfl, rfl, rfl⟩

def wWarning : State := run .dsp Inputs.quiet (withDsp .drain [0x8000000009])
theorem witness_OnlyTwoThingsPowerOff : wWarning.sysOff = false ∧ (∃ t, step wWarning = .next t ∧ t.sysOff = true)
    ∧ ∃ t, step (next .uiPowerOff base) = .next t ∧ t.sysOff = true := ⟨rfl, ⟨_, rfl, rfl⟩, _, rfl, rfl⟩

theorem witness_ResetGivesTheTable : (next .powerOnReset wOff).nextChoice = .powerOnReset
    ∧ ∃ t, step (next .powerOnReset wOff) = .next t := ⟨rfl, _, rfl⟩

def wBlink : State := { wDsp .drain Inputs.quiet 0 with dsp := { base.dsp with led := .slowBlink } }
theorem witness_SlowBlinkStaysUntilReset : base.cfg.legal = true ∧ (1#3 ++ 0#3) = base.cfg.codeBatWarnL2
    ∧ wBlink.dsp.led = .slowBlink ∧ wBlink.nextChoice ≠ .powerOnReset ∧ ∃ t, step wBlink = .next t :=
  ⟨by decide, by decide, rfl, by decide, _, rfl⟩

theorem witness_HaltedStaysHalted : wOff.nextChoice ≠ .powerOnReset
    ∧ (∃ t, step (run .tga Inputs.quiet (withTga { Tga.reset with phase := .halt })) = .next t)
    ∧ (∃ t, step (wPid .halt Inputs.quiet 0) = .next t) ∧ (∃ t, step (wAdv .halt) = .next t) ∧ ∃ t, step (wAdv .term) = .next t :=
  ⟨by decide, ⟨_, rfl⟩, ⟨_, rfl⟩, ⟨_, rfl⟩, _, rfl⟩

/-- each agent halts somewhere -/
theorem witness_FaultReachesOneAgent :
    (∃ t, step (run .tga errTouch (withTga both)) = .next t ∧ t.tga.phase = .halt)
    ∧ (∃ t, step (wPid .clear { Inputs.quiet with pmuClear := .err } 0) = .next t ∧ t.pid.phase = .halt)
    ∧ ∃ t, step (run .adv { Inputs.quiet with radio := .err } (withAdv .stop)) = .next t ∧ t.adv.phase = .halt :=
  ⟨⟨_, rfl, rfl⟩, ⟨_, rfl, rfl⟩, _, rfl, rfl⟩

/-- the reset state with the sample parameters meets every invariant -/
theorem base_queuesBounded : QueuesBounded base := ⟨by decide, by decide, by decide, by decide, by decide, by decide, by decide⟩
theorem base_radioInv : RadioInv base :=
  ⟨by intro a r h; exact absurd h (by simp [base, State.powerOn, Env.fresh]),
    by intro m p r h; exact absurd h (by simp [base, State.powerOn, Env.fresh]), fun h => absurd h (by decide),
    fun h => absurd h (by decide)⟩
theorem base_busInv : BusInv base :=
  ⟨by intro w h; exact absurd h (by simp [base, State.powerOn, Tga.reset]),
    by intro w h; exact absurd h (by simp [base, State.powerOn, Pid.reset]),
    by intro w h; exact absurd h (by simp [base, State.powerOn])⟩
theorem witness_StepKeepsQueuesBounded : QueuesBounded (run .adv Inputs.quiet base) ∧ ∃ t, step (run .adv Inputs.quiet base) = .next t :=
  ⟨⟨by decide, by decide, by decide, by decide, by decide, by decide, by decide⟩, _, rfl⟩
theorem witness_StepKeepsTouchInv : TouchInv (wSample both []).tga ∧ ∃ t, step (wSample both []) = .next t := ⟨both_inv, _, rfl⟩
theorem witness_StepKeepsBacklight : BacklightFollowsLock wEvent ∧ ∃ t, step wEvent = .next t := ⟨rfl, _, rfl⟩
theorem witness_StepKeepsRadioInv : (run .dsp Inputs.quiet base).cfg.legal = true ∧ RadioInv (run .dsp Inputs.quiet base)
    ∧ ∃ t, step (run .dsp Inputs.quiet base) = .next t :=
  ⟨by decide, ⟨base_radioInv.addrOut, base_radioInv.payloadOut, base_radioInv.addrNow, base_radioInv.payloadNow⟩, _, rfl⟩
theorem witness_StepKeepsOnAirInHold : (wAdv .start).nextChoice ≠ .powerOnReset ∧ OnAirInHold (wAdv .start)
    ∧ ∃ t, step (wAdv .start) = .next t := ⟨by decide, .inr rfl, _, rfl⟩
theorem witness_StepKeepsBusInv : BusInv (run .tga Inputs.quiet base) ∧ ∃ t, step (run .tga Inputs.quiet base) = .next t :=
  ⟨⟨base_busInv.tgaOut, base_busInv.pidOut, base_busInv.bus⟩, _, rfl⟩
theorem witness_StepKeepsTimersBounded : wElapse.cfg.legal = true ∧ TimersBounded wElapse ∧ wElapse.adv.rng ≠ 0
    ∧ ∃ t, step wElapse = .next t :=
  ⟨by decide, ⟨by decide, by decide, by decide, by decide, by decide, by decide, by decide, by decide, by decide, by decide⟩,
    by decide, _, rfl⟩

end Sys2Proof.Tests
end

section
/-! The choices and moves of a step: one inversion lemma per agent and one for the whole step. -/

namespace Sys2Proof.Machine

/-! ## The state an agent's step starts from -/

section
variable (s : State) (inp : Inputs)

@[simp] theorem State.begin_tga : (s.begin inp).tga = s.tga := by simp [State.begin]
@[simp] theorem State.begin_pid : (s.begin inp).pid = s.pid := by simp [State.begin]
@[simp] theorem State.begin_adv : (s.begin inp).adv = s.adv := by simp [State.begin]
@[simp] theorem State.begin_dsp : (s.begin inp).dsp = s.dsp := by simp [State.begin]
@[simp] theorem State.begin_evbQ : (s.begin inp).evbQ = s.evbQ := by simp [State.begin]
@[simp] theorem State.begin_ctlQ : (s.begin inp).ctlQ = s.ctlQ := by simp [State.begin]
@[simp] theorem State.begin_sysOff : (s.begin inp).sysOff = s.sysOff := by simp [State.begin]
@[simp] theorem State.begin_startInstant : (s.begin inp).startInstant = s.startInstant := by simp [State.begin]
@[simp] theorem State.begin_cfg : (s.begin inp).cfg = s.cfg := by simp [State.begin]
@[simp] theorem State.begin_inp : (s.begin inp).env.inp = inp := by simp [State.begin]
@[simp] theorem State.begin_outs : (s.begin inp).env.outs = s.env.outs := by simp [State.begin]
@[simp] theorem State.begin_nowMs : (s.begin inp).env.nowMs = s.env.nowMs := by simp [State.begin]

end

/-! ## What one step can be -/

/-- Everything a step can be: an agent that waits, an agent's own step, or one of the inputs. -/
inductive StepMove (s : State) : State → Prop where
  | waits (a : Agent) (inp : Inputs) (hc : s.nextChoice = .agent a inp) (he : (s.begin inp).enabled a = false) :
      StepMove s (s.begin inp)
  | agent (a : Agent) (inp : Inputs) {t : State} (hc : s.nextChoice = .agent a inp)
      (he : (s.begin inp).enabled a = true) (ha : agentStep a (s.begin inp) = .next t) : StepMove s t
  | touchEdge (hc : s.nextChoice = .touchEdge) : StepMove s (touchEdgeArrives s.dropChoice)
  | command (w : CcWord) (hc : s.nextChoice = .command w) : StepMove s (commandOffered w s.dropChoice)
  | uiPowerOff (hc : s.nextChoice = .uiPowerOff) : StepMove s (uiPowerOffArrives s.dropChoice)
  | elapse (ms : Nat) (hc : s.nextChoice = .elapse ms) : StepMove s (elapseTime ms s.dropChoice)
  | elapsedQuery (hc : s.nextChoice = .elapsedQuery) : StepMove s (elapsedQueryArrives s.dropChoice)
  | powerOnReset (hc : s.nextChoice = .powerOnReset) : StepMove s (powerOnReset s.dropChoice)

/-- A step carries out the choice that is next. -/
theorem step_of_choice {s : State} {c : Choice} (hc : s.nextChoice = c) : step s = move c s.dropChoice := by
  rw [step, hc]

/-- Every step is one of the moves. -/
theorem step_move {s t : State} (h : step s = .next t) : StepMove s t := by
  cases hc : s.nextChoice with
  | agent a inp =>
    rw [step_of_choice hc, move] at h
    obtain ⟨he, hs⟩ | ⟨he, hs⟩ := scheduleAgent_cases a inp s.dropChoice
    · exact .agent a inp hc he (hs ▸ h)
    · cases hs ▸ h
      exact .waits a inp hc he
  | touchEdge => cases step_of_choice hc ▸ h; exact .touchEdge hc
  | command w => cases step_of_choice hc ▸ h; exact .command w hc
  | uiPowerOff => cases step_of_choice hc ▸ h; exact .uiPowerOff hc
  | elapse ms => cases step_of_choice hc ▸ h; exact .elapse ms hc
  | elapsedQuery => cases step_of_choice hc ▸ h; exact .elapsedQuery hc
  | powerOnReset => cases step_of_choice hc ▸ h; exact .powerOnReset hc

/-! ## What each agent's step can be -/

/-- Everything TGA's step can be, by its phase (40_touch_arbiter.md R103 to R110, R116). -/
inductive TgaMove (s : State) : State → Prop where
  | sessionStart (hp : s.tga.phase = .wait) : TgaMove s (tgaSessionStart s)
  | readFails (hp : s.tga.phase = .read) (hr : s.env.inp.touch = .err) :
      TgaMove s (raiseFatal .touchRead (s.output (.call .touchRead .err)))
  | iteration (sf : SfWord) (hp : s.tga.phase = .read) (hr : s.env.inp.touch = .ok sf) :
      TgaMove s ((s.output (.call .touchRead .ok)).setTga (s.tga.iterate (framePoints sf)))
  | allSent (hp : s.tga.phase = .emit) (hq : s.tga.outq = []) :
      TgaMove s (s.setTga { s.tga with timer := Config.tgaPollMs, phase := .sleep })
  | send (e : EvWord) (rest : List EvWord) (hp : s.tga.phase = .emit) (hq : s.tga.outq = e :: rest) :
      TgaMove s ((s.setEvbQ (s.evbQ ++ [e])).setTga { s.tga with outq := rest })
  | wake (hp : s.tga.phase = .sleep) : TgaMove s (tgaWake s)
  | halted (hp : s.tga.phase = .halt) : TgaMove s s

theorem tgaEmit_move {s : State} (hp : s.tga.phase = .emit) : TgaMove s (tgaEmit s) := by
  unfold tgaEmit
  split
  next hq => exact .allSent hp hq
  next e rest hq => exact .send e rest hp hq

theorem tgaStep_move {s t : State} (h : tgaStep s = .next t) : TgaMove s t := by
  unfold tgaStep at h
  split at h
  next hp => cases h; exact .sessionStart hp
  next hp =>
    obtain ⟨hr, he⟩ | ⟨sf, hr, he⟩ := tgaRead_cases s
    · cases he ▸ h; exact .readFails hp hr
    · cases he ▸ h; exact .iteration sf hp hr
  next hp => cases h; exact tgaEmit_move hp
  next hp => cases h; exact .wake hp
  next hp => cases h; exact .halted hp

/-- Everything PID's step can be, by its phase (41_pmu_decoder.md R141 to R148). -/
inductive PidMove (s : State) : State → Prop where
  | lineAsserted (hp : s.pid.phase = .wait) : PidMove s (s.setPid { s.pid with phase := .read })
  | readFails (hp : s.pid.phase = .read) (hr : s.env.inp.pmuRead = .err) :
      PidMove s (raiseFatal .pmuRead (s.output (.call .pmuRead .err)))
  | read (ps : PsWord) (hp : s.pid.phase = .read) (hr : s.env.inp.pmuRead = .ok ps) :
      PidMove s ((s.output (.call .pmuRead .ok)).setPid
        { s.pid with stat := statusBytes s.cfg.pmuNreg ps, phase := .clear })
  | clearFails (hp : s.pid.phase = .clear) (hr : s.env.inp.pmuClear = .err) :
      PidMove s (raiseFatal .pmuClear (s.output (.call .pmuClear .err)))
  | clear (hp : s.pid.phase = .clear) (hr : s.env.inp.pmuClear = .ok) :
      PidMove s ((s.output (.call .pmuClear .ok)).setPid
        { s.pid with outq := pidDecode s.cfg s.pid.stat, phase := .emit })
  | allSent (hp : s.pid.phase = .emit) (hq : s.pid.outq = []) :
      PidMove s (s.setPid { s.pid with timer := Config.pmuGuardMs, phase := .sleep })
  | send (e : EvWord) (rest : List EvWord) (hp : s.pid.phase = .emit) (hq : s.pid.outq = e :: rest) :
      PidMove s ((s.setEvbQ (queueTryPush Config.evbCap s.evbQ e)).setPid { s.pid with outq := rest })
  | wake (hp : s.pid.phase = .sleep) : PidMove s (s.setPid { s.pid with phase := .wait })
  | halted (hp : s.pid.phase = .halt) : PidMove s s

theorem pidRead_move {s : State} (hp : s.pid.phase = .read) : PidMove s (pidRead s) := by
  unfold pidRead
  split
  next hr => exact .readFails hp hr
  next ps hr => exact .read ps hp hr

theorem pidClear_move {s : State} (hp : s.pid.phase = .clear) : PidMove s (pidClear s) := by
  unfold pidClear
  cases hr : s.env.inp.pmuClear with
  | err => exact .clearFails hp hr
  | ok => exact .clear hp hr

theorem pidEmit_move {s : State} (hp : s.pid.phase = .emit) : PidMove s (pidEmit s) := by
  unfold pidEmit
  split
  next hq => exact .allSent hp hq
  next e rest hq => exact .send e rest hp hq

theorem pidStep_move (s : State) : PidMove s (pidStep s) := by
  unfold pidStep
  split
  next hp => exact .lineAsserted hp
  next hp => exact pidRead_move hp
  next hp => exact pidClear_move hp
  next hp => exact pidEmit_move hp
  next hp => exact .wake hp
  next hp => exact .halted hp

/-- Everything ADV's step can be, by its phase (42_adv_randomizer.md R161 to R174). -/
inductive AdvMove (s : State) : State → Prop where
  | command (w : CcWord) (rest : List CcWord) {t : State} (hp : s.adv.phase = .drain) (hq : s.ctlQ = w :: rest)
      (hx : exec (decodeCc w) (s.setCtlQ rest) = .next t) : AdvMove s t
  | drainEnds (hp : s.adv.phase = .drain) (hq : s.ctlQ = []) : AdvMove s (advDrainEnd s)
  | synth (hp : s.adv.phase = .synth) : AdvMove s (advSynth s)
  | issue (i : Instr) {t : State} (hi : s.adv.issued = some i) (hx : exec i s = .next t) : AdvMove s t
  | holdEnds (hp : s.adv.phase = .hold) : AdvMove s (s.setAdv { s.adv with phase := .stop })
  | delayEnds (hp : s.adv.phase = .idle ∨ s.adv.phase = .settle) : AdvMove s (s.setAdv { s.adv with phase := .drain })
  | halted (hp : s.adv.phase = .term ∨ s.adv.phase = .halt) : AdvMove s s

theorem advDrain_move {s t : State} (hp : s.adv.phase = .drain) (h : advDrain s = .next t) : AdvMove s t := by
  unfold advDrain at h
  obtain ⟨hq, hpop⟩ | ⟨w, rest, hq, hpop⟩ := queueTryPop_cases s.ctlQ
  · rw [hpop] at h; cases h
    exact .drainEnds hp hq
  · rw [hpop] at h
    exact .command w rest hp hq h

theorem advIssue_move {s t : State} (hi : s.adv.issued.isSome = true) (h : advIssue s = .next t) : AdvMove s t := by
  obtain ⟨i, hi⟩ := Option.isSome_iff_exists.1 hi
  rw [advIssue, hi] at h
  exact .issue i hi h

theorem advStep_move {s t : State} (h : advStep s = .next t) : AdvMove s t := by
  unfold advStep at h
  split at h
  next hp => exact advDrain_move hp h
  next hp => cases h; exact .delayEnds (.inl hp)
  next hp => cases h; exact .synth hp
  next hp => exact advIssue_move (by simp [Adv.issued, hp]) h
  next hp => exact advIssue_move (by simp [Adv.issued, hp]) h
  next hp => exact advIssue_move (by simp [Adv.issued, hp]) h
  next hp => exact advIssue_move (by simp [Adv.issued, hp]) h
  next hp => cases h; exact .holdEnds hp
  next hp => exact advIssue_move (by simp [Adv.issued, hp]) h
  next hp => cases h; exact .delayEnds (.inr hp)
  next hp => cases h; exact .halted (.inl hp)
  next hp => cases h; exact .halted (.inr hp)

/-- Everything DSP's step can be, by its phase (43_event_bus_dispatcher.md R204 to R212). -/
inductive DspMove (s : State) : State → Prop where
  | event (w : EvWord) (rest : List EvWord) (i : Instr) {t : State} (hp : s.dsp.phase = .drain)
      (hq : s.evbQ = w :: rest) (hd : decodeEv w = .ok i) (hx : exec i (s.setEvbQ rest) = .next t) : DspMove s t
  | reservedEvent (w : EvWord) (rest : List EvWord) (err : DecodeError) (hp : s.dsp.phase = .drain)
      (hq : s.evbQ = w :: rest) (hd : decodeEv w = .error err) : DspMove s (lockGate w (s.setEvbQ rest))
  | drainEnds (hp : s.dsp.phase = .drain) (hq : s.evbQ = []) : DspMove s (s.setDsp { s.dsp with phase := .redraw })
  | redraw (hp : s.dsp.phase = .redraw) : DspMove s (dspRedraw s)
  | wake (hp : s.dsp.phase = .sleep) : DspMove s (s.setDsp { s.dsp with phase := .drain })

theorem dspDrain_move {s t : State} (hp : s.dsp.phase = .drain) (h : dspDrain s = .next t) : DspMove s t := by
  unfold dspDrain dspHandle at h
  obtain ⟨hq, hpop⟩ | ⟨w, rest, hq, hpop⟩ := queueTryPop_cases s.evbQ
  · rw [hpop] at h; cases h
    exact .drainEnds hp hq
  · simp only [hpop] at h
    split at h
    next i hd => exact .event w rest i hp hq hd h
    next err hd => cases h; exact .reservedEvent w rest err hp hq hd

theorem dspStep_move {s t : State} (h : dspStep s = .next t) : DspMove s t := by
  unfold dspStep at h
  split at h
  next hp => exact dspDrain_move hp h
  next hp => cases h; exact .redraw hp
  next hp => cases h; exact .wake hp

end Sys2Proof.Machine
end

section
/-! What each item and each agent's step writes, as an equation: every register that the
right side does not name is unchanged (10_state.md R20, R34). -/

namespace Sys2Proof.Machine

/-! ## Items -/

theorem decodeCc_format (w : CcWord) : (decodeCc w).format = .cc := by
  simp only [decodeCc]
  split_ifs <;> rfl

theorem decodeEv_format {w : EvWord} {i : Instr} (h : decodeEv w = .ok i) : i.format = .ev := by
  unfold decodeEv at h
  split_ifs at h <;> cases h <;> rfl

theorem Adv.issued_format {a : Adv} {i : Instr} (h : a.issued = some i) : i.format = .ro := by
  unfold Adv.issued at h
  split at h <;> cases h <;> rfl

/-- A command writes ADV's registers alone. -/
theorem exec_command_writes {i : Instr} {s t : State} (hf : i.format = .cc) (h : exec i s = .next t) :
    ∃ adv, t = { s with adv := adv } := by
  cases i with
  | start unused level => cases h; exact ⟨s.adv.setRunning true, rfl⟩
  | stop unused level => cases h; exact ⟨s.adv.setRunning false, rfl⟩
  | setPower unused level => cases h; exact ⟨{ s.adv with power := level }, rfl⟩
  | terminate unused level => cases h; exact ⟨{ s.adv with phase := .term }, rfl⟩
  | _ => cases hf

theorem lockGate_writes (w : EvWord) (s : State) : ∃ env, lockGate w s = { s with env := env } := by
  unfold lockGate
  split
  · exact ⟨s.env, rfl⟩
  · exact ⟨_, rfl⟩

theorem pmuAction_writes (code : ReasonCode) (s : State) :
    ∃ dsp off env, pmuAction code s = { s with dsp := dsp, sysOff := off, env := env } := by
  unfold pmuAction
  split_ifs
  · exact ⟨s.dsp.toggleLock, s.sysOff, s.env, rfl⟩
  · exact ⟨{ s.dsp with led := .slowBlink }, s.sysOff, s.env, rfl⟩
  · exact ⟨s.dsp, true, _, rfl⟩
  · exact ⟨s.dsp, s.sysOff, _, rfl⟩

/-- The lock gate writes no register, so it is within what DSP may write. -/
theorem lockGate_writes_dsp (w : EvWord) (s : State) :
    ∃ dsp off env, lockGate w s = { s with dsp := dsp, sysOff := off, env := env } := by
  obtain ⟨env, he⟩ := lockGate_writes w s
  exact ⟨s.dsp, s.sysOff, env, he⟩

/-- An event writes DSP's registers and `sys_off` alone. -/
theorem exec_event_writes {i : Instr} {s t : State} (hf : i.format = .ev) (h : exec i s = .next t) :
    ∃ dsp off env, t = { s with dsp := dsp, sysOff := off, env := env } := by
  cases i with
  | evPtrPressed f => cases h; exact lockGate_writes_dsp _ s
  | evPtrMoved f => cases h; exact lockGate_writes_dsp _ s
  | evPtrReleased f => cases h; exact lockGate_writes_dsp _ s
  | evPtrExited f => cases h; exact lockGate_writes_dsp _ s
  | evKeyPressed f => cases h; exact lockGate_writes_dsp _ s
  | evKeyReleased f => cases h; exact lockGate_writes_dsp _ s
  | evPmu unused reg bit => cases h; exact pmuAction_writes _ s
  | _ => cases hf

theorem callRadio_writes {c : FatalCause} (hc : causeAgent c = .adv) (op : RadioOp) (onOk : Adv → Adv) (s : State) :
    ∃ adv env, callRadio op c onOk s = { s with adv := adv, env := env } := by
  cases hr : s.env.inp.radio with
  | ok => exact ⟨onOk s.adv, _, callRadio_ok op c onOk s hr⟩
  | err =>
    rw [callRadio_err op c onOk s hr, raiseFatal, hc]
    exact ⟨{ s.adv with phase := .halt }, _, rfl⟩

/-- A radio operation writes ADV's registers alone. -/
theorem exec_radio_writes {i : Instr} {s t : State} (hf : i.format = .ro) (h : exec i s = .next t) :
    ∃ adv env, t = { s with adv := adv, env := env } := by
  cases i with
  | roSetAddr addr => cases h; exact callRadio_writes rfl _ _ s
  | roSetTxpwr step => cases h; exact callRadio_writes rfl _ _ s
  | roSetAdv mode payload => cases h; exact callRadio_writes rfl _ _ s
  | roStartAdv => cases h; exact callRadio_writes rfl _ _ s
  | roStopAdv => cases h; exact callRadio_writes rfl _ _ s
  | _ => cases hf

/-! ## Agents -/

/-- TGA writes its own registers and `evb_q`. -/
theorem TgaMove.writes {s t : State} (h : TgaMove s t) :
    ∃ tga q env, t = { s with tga := tga, evbQ := q, env := env } := by
  cases h with
  | sessionStart hp => exact ⟨_, s.evbQ, s.env, rfl⟩
  | readFails hp hr => exact ⟨{ s.tga with phase := .halt }, s.evbQ, _, rfl⟩
  | iteration sf hp hr => exact ⟨s.tga.iterate (framePoints sf), s.evbQ, _, rfl⟩
  | allSent hp hq => exact ⟨_, s.evbQ, s.env, rfl⟩
  | send e rest hp hq => exact ⟨_, _, s.env, rfl⟩
  | wake hp => exact ⟨_, s.evbQ, s.env, rfl⟩
  | halted hp => exact ⟨s.tga, s.evbQ, s.env, rfl⟩

/-- PID writes its own registers and `evb_q`. -/
theorem PidMove.writes {s t : State} (h : PidMove s t) : ∃ pid q env, t = { s with pid := pid, evbQ := q, env := env } := by
  cases h with
  | lineAsserted hp => exact ⟨_, s.evbQ, s.env, rfl⟩
  | readFails hp hr => exact ⟨{ s.pid with phase := .halt }, s.evbQ, _, rfl⟩
  | read ps hp hr => exact ⟨_, s.evbQ, _, rfl⟩
  | clearFails hp hr => exact ⟨{ s.pid with phase := .halt }, s.evbQ, _, rfl⟩
  | clear hp hr => exact ⟨_, s.evbQ, _, rfl⟩
  | allSent hp hq => exact ⟨_, s.evbQ, s.env, rfl⟩
  | send e rest hp hq => exact ⟨_, _, s.env, rfl⟩
  | wake hp => exact ⟨_, s.evbQ, s.env, rfl⟩
  | halted hp => exact ⟨s.pid, s.evbQ, s.env, rfl⟩

/-- ADV writes its own registers, and of `ctl_q` it leaves a tail. -/
theorem AdvMove.writes {s t : State} (h : AdvMove s t) :
    ∃ adv q env, t = { s with adv := adv, ctlQ := q, env := env } ∧ q <:+ s.ctlQ := by
  cases h with
  | command w rest hp hq hx =>
    obtain ⟨adv, ht⟩ := exec_command_writes (decodeCc_format w) hx
    exact ⟨adv, rest, s.env, ht, hq ▸ List.suffix_cons w rest⟩
  | drainEnds hp hq =>
    unfold advDrainEnd
    split
    · exact ⟨_, s.ctlQ, s.env, rfl, List.suffix_rfl⟩
    · exact ⟨_, s.ctlQ, s.env, rfl, List.suffix_rfl⟩
  | synth hp => exact ⟨_, s.ctlQ, s.env, rfl, List.suffix_rfl⟩
  | issue i hi hx =>
    obtain ⟨adv, env, ht⟩ := exec_radio_writes (Adv.issued_format hi) hx
    exact ⟨adv, s.ctlQ, env, ht, List.suffix_rfl⟩
  | holdEnds hp => exact ⟨_, s.ctlQ, s.env, rfl, List.suffix_rfl⟩
  | delayEnds hp => exact ⟨_, s.ctlQ, s.env, rfl, List.suffix_rfl⟩
  | halted hp => exact ⟨s.adv, s.ctlQ, s.env, rfl, List.suffix_rfl⟩

theorem dspRedraw_writes (s : State) : ∃ dsp env, dspRedraw s = { s with dsp := dsp, env := env } := by
  simp only [dspRedraw]
  split
  · exact ⟨_, _, rfl⟩
  · exact ⟨_, s.env, rfl⟩

/-- DSP writes its own registers and `sys_off`, and of `evb_q` it leaves a tail. -/
theorem DspMove.writes {s t : State} (h : DspMove s t) :
    ∃ dsp q off env, t = { s with dsp := dsp, evbQ := q, sysOff := off, env := env } ∧ q <:+ s.evbQ := by
  cases h with
  | event w rest i hp hq hd hx =>
    obtain ⟨dsp, off, env, ht⟩ := exec_event_writes (decodeEv_format hd) hx
    exact ⟨dsp, rest, off, env, ht, hq ▸ List.suffix_cons w rest⟩
  | reservedEvent w rest err hp hq hd =>
    obtain ⟨env, he⟩ := lockGate_writes w (s.setEvbQ rest)
    exact ⟨s.dsp, rest, s.sysOff, env, he, hq ▸ List.suffix_cons w rest⟩
  | drainEnds hp hq => exact ⟨_, s.evbQ, s.sysOff, s.env, rfl, List.suffix_rfl⟩
  | redraw hp =>
    obtain ⟨dsp, env, he⟩ := dspRedraw_writes s
    exact ⟨dsp, s.evbQ, s.sysOff, env, he, List.suffix_rfl⟩
  | wake hp => exact ⟨_, s.evbQ, s.sysOff, s.env, rfl, List.suffix_rfl⟩

/-- No agent writes a parameter. -/
theorem agentStep_cfg {a : Agent} {s t : State} (h : agentStep a s = .next t) : t.cfg = s.cfg := by
  cases a with
  | tga => obtain ⟨tga, q, env, rfl⟩ := (tgaStep_move h).writes; rfl
  | pid => cases h; obtain ⟨pid, q, env, he⟩ := (pidStep_move s).writes; rw [he]
  | adv => obtain ⟨adv, q, env, rfl, -⟩ := (advStep_move h).writes; rfl
  | dsp => obtain ⟨dsp, q, off, env, rfl, -⟩ := (dspStep_move h).writes; rfl

/-! ## Inputs -/

theorem touchEdgeArrives_writes (s : State) : ∃ tga, touchEdgeArrives s = { s with tga := tga } := by
  unfold touchEdgeArrives
  split
  · exact ⟨s.tga, rfl⟩
  · exact ⟨_, rfl⟩

theorem queueFull_eq_false_iff {α : Type} (cap : Nat) (q : List α) : queueFull cap q = false ↔ q.length < cap := by
  rw [← Bool.not_eq_true, queueFull_iff, Nat.not_le]

/-- Everything the command port can do: the word enters at the tail, or there is no room (20_memory.md R52). -/
theorem commandOffered_cases (w : CcWord) (s : State) :
    (s.ctlQ.length < 3 ∧ commandOffered w s = s.setCtlQ (s.ctlQ ++ [w])) ∨ (3 ≤ s.ctlQ.length ∧ commandOffered w s = s) := by
  by_cases h : s.ctlQ.length < 3
  · have hf : queueFull Config.ctlCap s.ctlQ = false := (queueFull_eq_false_iff _ _).2 h
    exact .inl ⟨h, by simp [commandOffered, State.cmdReady, hf, queuePush]⟩
  · have hf : queueFull Config.ctlCap s.ctlQ = true := (queueFull_iff _ _).2 (Nat.le_of_not_lt h)
    exact .inr ⟨Nat.le_of_not_lt h, by simp [commandOffered, State.cmdReady, hf]⟩

theorem uiPowerOffArrives_writes (s : State) : ∃ off env, uiPowerOffArrives s = { s with sysOff := off, env := env } := by
  unfold uiPowerOffArrives
  split
  · exact ⟨s.sysOff, s.env, rfl⟩
  · exact ⟨true, _, rfl⟩

theorem elapsedQueryArrives_writes (s : State) :
    ∃ start env, elapsedQueryArrives s = { s with startInstant := start, env := env } := by
  unfold elapsedQueryArrives
  split
  · exact ⟨s.startInstant, s.env, rfl⟩
  · exact ⟨_, _, rfl⟩

theorem elapseTime_cfg (ms : Nat) (s : State) : (elapseTime ms s).cfg = s.cfg := by
  rw [elapseTime_eq]
  split <;> rfl

/-- No step of any kind writes a parameter (10_state.md R20). -/
theorem step_cfg {s t : State} (h : step s = .next t) : t.cfg = s.cfg := by
  cases step_move h with
  | waits a inp hc he => simp
  | agent a inp hc he ha => simpa using agentStep_cfg ha
  | touchEdge hc => obtain ⟨tga, he⟩ := touchEdgeArrives_writes s.dropChoice; simp [he]
  | command w hc => obtain ⟨-, he⟩ | ⟨-, he⟩ := commandOffered_cases w s.dropChoice <;> simp [he]
  | uiPowerOff hc => obtain ⟨off, env, he⟩ := uiPowerOffArrives_writes s.dropChoice; simp [he]
  | elapse ms hc => simp [elapseTime_cfg]
  | elapsedQuery hc => obtain ⟨start, env, he⟩ := elapsedQueryArrives_writes s.dropChoice; simp [he]
  | powerOnReset hc => simp [Machine.powerOnReset, State.powerOn]

/-! ## The statements about who writes what, the passing of time, and reset -/

/-- Settles O41: the step is the scheduled agent's wait or its own step, and what each agent writes is known. -/
theorem agentsWriteOnlyTheirOwn : Obligations.AgentsWriteOnlyTheirOwn := by
  intro s t h
  refine ⟨step_cfg h, fun a inp hc => ?_⟩
  cases step_move h with
  | waits a' inp' hc' he => simp
  | agent a' inp' hc' he ha =>
    cases hc.symm.trans hc'
    cases a with
    | tga => obtain ⟨tga, q, env, rfl⟩ := (tgaStep_move ha).writes; simp
    | pid =>
      cases ha
      obtain ⟨pid, q, env, he⟩ := (pidStep_move (s.begin inp)).writes
      simp [he]
    | adv => obtain ⟨adv, q, env, rfl, -⟩ := (advStep_move ha).writes; simp
    | dsp => obtain ⟨dsp, q, off, env, rfl, -⟩ := (dspStep_move ha).writes; simp
  | touchEdge hc' => cases hc.symm.trans hc'
  | command w hc' => cases hc.symm.trans hc'
  | uiPowerOff hc' => cases hc.symm.trans hc'
  | elapse ms hc' => cases hc.symm.trans hc'
  | elapsedQuery hc' => cases hc.symm.trans hc'
  | powerOnReset hc' => cases hc.symm.trans hc'

/-- Settles O42: the step is `elapseTime`, and each timer is `timerAfter` of what it was. -/
theorem timersCountDown : Obligations.TimersCountDown := by
  intro s t ms hc hon h
  cases step_of_choice hc ▸ h
  simp [elapseTime_eq, hon, timerAfter_toNat]

/-- Settles O47: both cases are the machine right after a power-on reset, whose registers are the table's. -/
theorem resetGivesTheTable : Obligations.ResetGivesTheTable := by
  intro t ht
  obtain ⟨cfg, env, rfl⟩ : ∃ cfg env, t = State.powerOn cfg env := by
    obtain rfl | ⟨s, hc, h⟩ := ht
    · exact ⟨_, _, rfl⟩
    · cases step_of_choice hc ▸ h
      exact ⟨_, _, rfl⟩
  exact ⟨rfl, rfl, rfl, rfl, rfl, rfl, rfl, rfl, rfl, rfl, rfl, rfl, rfl⟩

end Sys2Proof.Machine
end

section
/-! The iteration emits at most three events, for every sample and every state (40_touch_arbiter.md R119). A visit emits at
most one event; a release emits two for the pointer and one for a key. An id that a point lists is not released, so two points
that list both ids leave nothing to release; and where two points list one id while the other is the pointer, only the visit
that announces the listed id emits. -/

namespace Sys2Proof.Machine

/-! ## One visit -/

theorem Tga.claim_eq_self_of_pointer {t : Tga} {j : TouchId} (h : t.pointer = some j) (i : TouchId) : t.claim i = t := by
  simp [Tga.claim, h]

@[simp] theorem Tga.claim_outq (t : Tga) (i : TouchId) : (t.claim i).outq = t.outq := by
  obtain ⟨-, -, h⟩ | ⟨-, h⟩ := t.claim_cases i <;> rw [h]

theorem Tga.claim_pointer_ne {t : Tga} {i j : TouchId} (hne : i ≠ j) (h : t.pointer ≠ some i) :
    (t.claim j).pointer ≠ some i := by
  obtain ⟨-, -, hc⟩ | ⟨-, hc⟩ := t.claim_cases j
  · rw [hc]; exact fun he => hne (Option.some.inj he).symm
  · rwa [hc]

theorem Tga.gesturePoint_outq_le (t : Tga) (p : Point) : (t.gesturePoint p).outq.length ≤ t.outq.length + 1 := by
  obtain ⟨-, h⟩ | ⟨-, -, h⟩ | ⟨-, -, h⟩ | ⟨-, -, h⟩ := t.gesturePoint_cases p <;> simp [h]

theorem Tga.buttonPoint_outq_le (t : Tga) (p : Point) : (t.buttonPoint p).outq.length ≤ t.outq.length + 1 := by
  obtain h | ⟨k, -, -, -, h⟩ := t.buttonPoint_cases p <;> simp [h]

/-- A visit emits at most one event. -/
theorem Tga.visitPoint_outq_le (t : Tga) (p : Point) : (t.visitPoint p).outq.length ≤ t.outq.length + 1 := by
  unfold Tga.visitPoint
  split
  · exact t.gesturePoint_outq_le p
  · exact t.buttonPoint_outq_le p

theorem Tga.gesturePoint_pointer (t : Tga) (p : Point) : (t.gesturePoint p).pointer = (t.claim p.id).pointer := by
  obtain ⟨-, h⟩ | ⟨-, -, h⟩ | ⟨-, -, h⟩ | ⟨-, -, h⟩ := t.gesturePoint_cases p <;> simp [h]

theorem Tga.buttonPoint_pointer (t : Tga) (p : Point) : (t.buttonPoint p).pointer = t.pointer := by
  obtain h | ⟨k, -, -, -, h⟩ := t.buttonPoint_cases p <;> simp [h]

/-- A visit makes no id the pointer but the one it visits. -/
theorem Tga.visitPoint_pointer_ne {t : Tga} {i : TouchId} {p : Point} (hne : i ≠ p.id) (h : t.pointer ≠ some i) :
    (t.visitPoint p).pointer ≠ some i := by
  unfold Tga.visitPoint
  split
  · rw [Tga.gesturePoint_pointer]; exact Tga.claim_pointer_ne hne h
  · rwa [Tga.buttonPoint_pointer]

/-- While another id is the pointer, a visit does nothing or announces a key. -/
theorem Tga.visitPoint_of_other_pointer {t : Tga} {i : TouchId} {p : Point} (hne : i ≠ p.id) (h : t.pointer = some i) :
    t.visitPoint p = t
    ∨ ∃ k, t.active p.id = false ∧ t.visitPoint p = (t.emit (keyPressed k)).markActive p.id p.pos := by
  have hother : t.pointer ≠ some p.id := by rw [h]; exact fun he => hne (Option.some.inj he)
  unfold Tga.visitPoint
  split
  · have hg : t.gesturePoint p = t := by simp [Tga.gesturePoint, Tga.claim_eq_self_of_pointer h, hother]
    exact .inl hg
  · obtain hb | ⟨k, -, ha, -, hb⟩ := t.buttonPoint_cases p
    · exact .inl hb
    · exact .inr ⟨k, ha, hb⟩

/-! ## All visits of a sample -/

@[simp] theorem Tga.visitAll_nil (t : Tga) : t.visitAll [] = t := rfl

@[simp] theorem Tga.visitAll_cons (t : Tga) (w : TpWord) (ws : List TpWord) :
    t.visitAll (w :: ws) = (t.visitPoint (pointOf w)).visitAll ws := rfl

/-- The visits emit at most one event a word. -/
theorem Tga.visitAll_outq_le (t : Tga) (ws : List TpWord) : (t.visitAll ws).outq.length ≤ t.outq.length + ws.length := by
  induction ws generalizing t with
  | nil => simp
  | cons w ws ih =>
    have hfirst := t.visitPoint_outq_le (pointOf w)
    have hrest := ih (t.visitPoint (pointOf w))
    simp only [Tga.visitAll_cons, List.length_cons]
    omega

/-- An id that no word lists does not become the pointer. -/
theorem Tga.visitAll_pointer_ne {t : Tga} {i : TouchId} {ws : List TpWord} (habs : ∀ w ∈ ws, w.id ≠ i)
    (h : t.pointer ≠ some i) : (t.visitAll ws).pointer ≠ some i := by
  induction ws generalizing t with
  | nil => exact h
  | cons w ws ih =>
    obtain ⟨hw, hws⟩ := List.forall_mem_cons.1 habs
    exact ih hws (Tga.visitPoint_pointer_ne (p := pointOf w) (Ne.symm hw) h)

/-- While the id `i` is the pointer, the visits of words that all list the other id `j` emit an event only where they
announce `j`. -/
theorem Tga.visitAll_outq_add_active_le {t : Tga} {i j : TouchId} {ws : List TpWord} (hne : i ≠ j)
    (hall : ∀ w ∈ ws, w.id = j) (h : t.pointer = some i) :
    (t.visitAll ws).outq.length + (t.active j).toNat ≤ t.outq.length + ((t.visitAll ws).active j).toNat := by
  induction ws generalizing t with
  | nil => simp
  | cons w ws ih =>
    obtain ⟨rfl, hws⟩ := List.forall_mem_cons.1 hall
    obtain hv | ⟨k, ha, hv⟩ := Tga.visitPoint_of_other_pointer (p := pointOf w) hne h
    · rw [Tga.visitAll_cons, hv]
      exact ih hws h
    · have hactive : (t.visitPoint (pointOf w)).active w.id = true := by
        rw [hv]; simp [Tga.active, Tga.markActive, pointOf]
      have hrest := ih (t := t.visitPoint (pointOf w)) hws (by simp [hv, h])
      have hoff : t.active w.id = false := ha
      rw [hactive, hv] at hrest
      rw [Tga.visitAll_cons, hv, hoff]
      simp only [Bool.toNat_true, Tga.markActive_outq, Tga.emit_outq, List.length_append, List.length_singleton,
        Bool.toNat_false] at hrest ⊢
      omega

/-! ## The release scan -/

/-- A release emits two events for the pointer, and one at most for a key. -/
theorem Tga.releaseId_outq_le (t : Tga) (i : TouchId) :
    (t.releaseId i).outq.length ≤ t.outq.length + if t.pointer = some i then 2 else 1 := by
  obtain ⟨hp, h⟩ | ⟨k, hp, -, h⟩ | ⟨hp, -, h⟩ := t.releaseId_cases i <;> simp [h, hp]

theorem Tga.releaseIfAbsent_outq_le (seen : List TouchId) (i : TouchId) (t : Tga) :
    (t.releaseIfAbsent seen i).outq.length ≤ t.outq.length + if t.pointer = some i then 2 else 1 := by
  obtain ⟨-, -, h⟩ | ⟨-, h⟩ := Tga.releaseIfAbsent_cases seen i t
  · rw [h]; exact t.releaseId_outq_le i
  · rw [h]; omega

theorem Tga.releaseIfAbsent_of_mem {seen : List TouchId} {i : TouchId} (h : i ∈ seen) (t : Tga) :
    t.releaseIfAbsent seen i = t := by
  simp [Tga.releaseIfAbsent, h]

/-- Only one id is the pointer: whoever it is, its release costs the other no second event. -/
theorem Tga.releaseScan_outq_le (seen : List TouchId) (t : Tga) :
    (t.releaseScan seen).outq.length ≤ t.outq.length + 3 := by
  have hfirst := Tga.releaseIfAbsent_outq_le seen .id0 t
  have hsecond := Tga.releaseIfAbsent_outq_le seen .id1 (t.releaseIfAbsent seen .id0)
  by_cases hp : t.pointer = some .id0
  · have hother : (t.releaseIfAbsent seen .id0).pointer ≠ some .id1 := by
      obtain ⟨-, -, h⟩ | ⟨-, h⟩ := Tga.releaseIfAbsent_cases seen .id0 t
      · simp [h, Tga.releaseId, hp]
      · simp [h, hp]
    rw [if_pos hp] at hfirst
    rw [if_neg hother] at hsecond
    unfold Tga.releaseScan
    omega
  · rw [if_neg hp] at hfirst
    unfold Tga.releaseScan
    split at hsecond <;> omega

/-- Where the scan releases one id at most, it is the release of that id. -/
theorem Tga.releaseScan_of_other_mem {seen : List TouchId} {i j : TouchId} (hne : i ≠ j) (h : j ∈ seen) (t : Tga) :
    t.releaseScan seen = t.releaseIfAbsent seen i := by
  cases i <;> cases j
  case id0.id1 => exact Tga.releaseIfAbsent_of_mem h _
  case id1.id0 => rw [Tga.releaseScan, Tga.releaseIfAbsent_of_mem h]
  all_goals exact absurd rfl hne

/-! ## The iteration -/

theorem framePoints_length_le (sf : SfWord) : (framePoints sf).length ≤ 2 := by
  simp only [framePoints]
  split_ifs <;> simp

theorem visitOrder_length (l : List TpWord) : (visitOrder l).length = l.length := by
  have h := l.length_eq_length_filter_add (fun w => inGesture w.y)
  rw [visitOrder, List.length_append, h]

theorem mem_visitOrder {w : TpWord} {l : List TpWord} : w ∈ visitOrder l ↔ w ∈ l := by
  cases hg : inGesture w.y <;> simp [visitOrder, hg]

theorem mem_seenIds {i : TouchId} {l : List TpWord} : i ∈ seenIds l ↔ ∃ w ∈ l, w.id = i := by
  simp [seenIds]

/-- There are two touch ids. -/
theorem touchId_eq_of_ne_of_ne {i j k : TouchId} (hne : i ≠ j) (hk : k ≠ i) : k = j := by
  cases i <;> cases j <;> cases k <;> simp_all

theorem Tga.iterate_outq (t : Tga) (l : List TpWord) :
    (t.iterate l).outq = ((t.visitAll (visitOrder l)).releaseScan (seenIds l)).outq := rfl

/-- The iteration over a sample that lists `j` and does not list `i`. -/
theorem Tga.iterate_outq_le_of_absent {i j : TouchId} (hne : i ≠ j) {l : List TpWord} (hl : l.length ≤ 2)
    (hj : j ∈ seenIds l) (hi : i ∉ seenIds l) (t : Tga) : (t.iterate l).outq.length ≤ t.outq.length + 3 := by
  have habs : ∀ w ∈ visitOrder l, w.id ≠ i := fun w hw he => hi (mem_seenIds.2 ⟨w, mem_visitOrder.1 hw, he⟩)
  have hrelease := Tga.releaseIfAbsent_outq_le (seenIds l) i (t.visitAll (visitOrder l))
  have hvisits := t.visitAll_outq_le (visitOrder l)
  rw [visitOrder_length] at hvisits
  rw [Tga.iterate_outq, Tga.releaseScan_of_other_mem hne hj]
  by_cases hp : t.pointer = some i
  · have hall : ∀ w ∈ visitOrder l, w.id = j := fun w hw => touchId_eq_of_ne_of_ne hne (habs w hw)
    have hkey := Tga.visitAll_outq_add_active_le hne hall hp
    have hbit := ((t.visitAll (visitOrder l)).active j).toNat_le
    split at hrelease <;> omega
  · rw [if_neg (Tga.visitAll_pointer_ne habs hp)] at hrelease
    omega

/-- One iteration emits at most three events (R119). -/
theorem Tga.iterate_outq_le (t : Tga) {l : List TpWord} (hl : l.length ≤ 2) :
    (t.iterate l).outq.length ≤ t.outq.length + 3 := by
  by_cases h0 : TouchId.id0 ∈ seenIds l <;> by_cases h1 : TouchId.id1 ∈ seenIds l
  · have hvisits := t.visitAll_outq_le (visitOrder l)
    rw [visitOrder_length] at hvisits
    rw [Tga.iterate_outq, Tga.releaseScan_of_other_mem (i := .id0) (j := .id1) (by decide) h1, Tga.releaseIfAbsent_of_mem h0]
    omega
  · exact Tga.iterate_outq_le_of_absent (by decide) hl h0 h1 t
  · exact Tga.iterate_outq_le_of_absent (by decide) hl h1 h0 t
  · have hnil : l = [] := List.eq_nil_iff_forall_not_mem.2 fun w hw => by
      cases hid : w.id with
      | id0 => exact h0 (mem_seenIds.2 ⟨w, hw, hid⟩)
      | id1 => exact h1 (mem_seenIds.2 ⟨w, hw, hid⟩)
    subst hnil
    exact t.releaseScan_outq_le []

end Sys2Proof.Machine
end
section
/-! The queues and out-queues stay within their capacities (10_state.md R24, R25, R28, R29): one rule for each update of the
state, then one lemma for each agent and each input. -/

namespace Sys2Proof.Machine

/-! ## PID's decoded list and status bytes -/

theorem decodeRegister_length_le (masked : Byte) (r : Nat) : (decodeRegister masked r).length ≤ 8 := by
  have h := List.length_filter_le (fun b => masked.getLsbD b) (List.range Config.pmuRegW)
  simpa [decodeRegister, Config.pmuRegW] using h

/-- `pid_decode` gives at most eight events a register (R25). -/
theorem pidDecode_length_le (cfg : Params) (stat : List Byte) : (pidDecode cfg stat).length ≤ 8 * cfg.pmuNreg := by
  unfold pidDecode
  induction cfg.pmuNreg with
  | zero => simp
  | succ n ih =>
    have hlast := decodeRegister_length_le (maskedByte cfg stat n) n
    simp only [List.range_succ, List.flatMap_append, List.flatMap_singleton, List.length_append]
    omega

@[simp] theorem statusBytes_length (nreg : Nat) (ps : PsWord) : (statusBytes nreg ps).length = nreg := by
  simp [statusBytes]

/-! ## One rule for each update -/

namespace QueuesBounded

section
variable {s : State}

theorem setTga (h : QueuesBounded s) {v : Tga} (hlen : v.outq.length ≤ 3) (hphase : v.outq ≠ [] → v.phase = .emit) :
    QueuesBounded (s.setTga v) :=
  ⟨h.evb, h.ctl, hlen, h.pidOut, hphase, h.pidOutPhase, h.stat⟩

theorem setPid (h : QueuesBounded s) {v : Pid} (hlen : v.outq.length ≤ 8 * s.cfg.pmuNreg)
    (hphase : v.outq ≠ [] → v.phase = .emit) (hstat : v.stat.length = s.cfg.pmuNreg) : QueuesBounded (s.setPid v) :=
  ⟨h.evb, h.ctl, h.tgaOut, hlen, h.tgaOutPhase, hphase, hstat⟩

theorem setAdv (h : QueuesBounded s) (v : Adv) : QueuesBounded (s.setAdv v) :=
  ⟨h.evb, h.ctl, h.tgaOut, h.pidOut, h.tgaOutPhase, h.pidOutPhase, h.stat⟩

theorem setDsp (h : QueuesBounded s) (v : Dsp) : QueuesBounded (s.setDsp v) :=
  ⟨h.evb, h.ctl, h.tgaOut, h.pidOut, h.tgaOutPhase, h.pidOutPhase, h.stat⟩

theorem setEvbQ (h : QueuesBounded s) {q : List EvWord} (hq : q.length ≤ 32) : QueuesBounded (s.setEvbQ q) :=
  ⟨hq, h.ctl, h.tgaOut, h.pidOut, h.tgaOutPhase, h.pidOutPhase, h.stat⟩

theorem setCtlQ (h : QueuesBounded s) {q : List CcWord} (hq : q.length ≤ 3) : QueuesBounded (s.setCtlQ q) :=
  ⟨h.evb, hq, h.tgaOut, h.pidOut, h.tgaOutPhase, h.pidOutPhase, h.stat⟩

theorem setSysOff (h : QueuesBounded s) (v : Bool) : QueuesBounded (s.setSysOff v) :=
  ⟨h.evb, h.ctl, h.tgaOut, h.pidOut, h.tgaOutPhase, h.pidOutPhase, h.stat⟩

theorem setStartInstant (h : QueuesBounded s) (v : Option Nat) : QueuesBounded (s.setStartInstant v) :=
  ⟨h.evb, h.ctl, h.tgaOut, h.pidOut, h.tgaOutPhase, h.pidOutPhase, h.stat⟩

theorem setEnv (h : QueuesBounded s) (v : Env) : QueuesBounded (s.setEnv v) :=
  ⟨h.evb, h.ctl, h.tgaOut, h.pidOut, h.tgaOutPhase, h.pidOutPhase, h.stat⟩

theorem output (h : QueuesBounded s) (o : Output) : QueuesBounded (s.output o) := h.setEnv _

theorem dropChoice (h : QueuesBounded s) : QueuesBounded s.dropChoice := by
  unfold State.dropChoice
  split
  · exact h.setEnv _
  · exact h.setEnv _

theorem begin (h : QueuesBounded s) (inp : Inputs) : QueuesBounded (s.begin inp) := h.dropChoice.setEnv _

theorem tgaOut_eq_nil (h : QueuesBounded s) (hp : s.tga.phase ≠ .emit) : s.tga.outq = [] :=
  by_contra fun hq => hp (h.tgaOutPhase hq)

theorem pidOut_eq_nil (h : QueuesBounded s) (hp : s.pid.phase ≠ .emit) : s.pid.outq = [] :=
  by_contra fun hq => hp (h.pidOutPhase hq)

/-- TGA's registers may change in any way that leaves an empty out-queue empty. -/
theorem setTga_of_outq_nil (h : QueuesBounded s) {v : Tga} (hv : v.outq = s.tga.outq) (hq : s.tga.outq = []) :
    QueuesBounded (s.setTga v) :=
  h.setTga (by simp [hv, hq]) (fun hne => absurd (hv.trans hq) hne)

/-- PID's registers may change in any way that leaves an empty out-queue empty and the status bytes as many. -/
theorem setPid_of_outq_nil (h : QueuesBounded s) {v : Pid} (hv : v.outq = s.pid.outq) (hq : s.pid.outq = [])
    (hstat : v.stat.length = s.cfg.pmuNreg) : QueuesBounded (s.setPid v) :=
  h.setPid (by simp [hv, hq]) (fun hne => absurd (hv.trans hq) hne) hstat

/-! ## Agents -/

/-- TGA pushes only where the bus has room, so its step keeps the bounds where it is enabled (R28, R110). -/
theorem tgaMove {t : State} (h : QueuesBounded s) (he : s.tgaEnabled = true) (hm : TgaMove s t) : QueuesBounded t := by
  cases hm with
  | sessionStart hp => exact h.setTga_of_outq_nil rfl (h.tgaOut_eq_nil (by simp [hp]))
  | readFails hp hr =>
    exact ((h.output _).setTga_of_outq_nil (v := { s.tga with phase := .halt }) rfl
      (h.tgaOut_eq_nil (by simp [hp]))).output _
  | iteration sf hp hr =>
    have hlen := s.tga.iterate_outq_le (framePoints_length_le sf)
    rw [h.tgaOut_eq_nil (by simp [hp])] at hlen
    exact (h.output _).setTga (by simpa using hlen) (fun _ => rfl)
  | allSent hp hq => exact h.setTga_of_outq_nil rfl hq
  | send e rest hp hq =>
    obtain ⟨hroom, -⟩ : s.evbQ.length < Config.evbCap ∧ s.busGrantsTga = true := by
      simpa [State.tgaEnabled, hp, hq, queueFull_eq_false_iff] using he
    have hlen := h.tgaOut
    rw [hq, List.length_cons] at hlen
    refine (h.setEvbQ (q := s.evbQ ++ [e]) ?_).setTga ?_ (fun _ => hp)
    · rw [List.length_append]; exact hroom
    · show rest.length ≤ 3
      omega
  | wake hp => exact h.setTga_of_outq_nil rfl (h.tgaOut_eq_nil (by simp [hp]))
  | halted hp => exact h

/-- PID drops an event rather than push it on a full bus (R28, R146). -/
theorem pidMove {t : State} (h : QueuesBounded s) (hm : PidMove s t) : QueuesBounded t := by
  cases hm with
  | lineAsserted hp => exact h.setPid_of_outq_nil rfl (h.pidOut_eq_nil (by simp [hp])) h.stat
  | readFails hp hr =>
    exact ((h.output _).setPid_of_outq_nil (v := { s.pid with phase := .halt }) rfl
      (h.pidOut_eq_nil (by simp [hp])) h.stat).output _
  | read ps hp hr =>
    exact (h.output _).setPid_of_outq_nil rfl (h.pidOut_eq_nil (by simp [hp])) (statusBytes_length _ _)
  | clearFails hp hr =>
    exact ((h.output _).setPid_of_outq_nil (v := { s.pid with phase := .halt }) rfl
      (h.pidOut_eq_nil (by simp [hp])) h.stat).output _
  | clear hp hr => exact (h.output _).setPid (pidDecode_length_le _ _) (fun _ => rfl) h.stat
  | allSent hp hq => exact h.setPid_of_outq_nil rfl hq h.stat
  | send e rest hp hq =>
    have hbus : (queueTryPush Config.evbCap s.evbQ e).length ≤ 32 := by
      obtain ⟨-, hpush⟩ | ⟨hroom, hpush⟩ := queueTryPush_cases Config.evbCap s.evbQ e
      · rw [hpush]; exact h.evb
      · rw [hpush, List.length_append]; exact hroom
    have hlen := h.pidOut
    rw [hq, List.length_cons] at hlen
    refine (h.setEvbQ hbus).setPid ?_ (fun _ => hp) h.stat
    show rest.length ≤ 8 * s.cfg.pmuNreg
    omega
  | wake hp => exact h.setPid_of_outq_nil rfl (h.pidOut_eq_nil (by simp [hp])) h.stat
  | halted hp => exact h

theorem agentStep {a : Agent} {t : State} (h : QueuesBounded s) (he : s.enabled a = true)
    (ha : agentStep a s = .next t) : QueuesBounded t := by
  cases a with
  | tga => exact h.tgaMove (Bool.and_eq_true_iff.1 he).2 (tgaStep_move ha)
  | pid => cases ha; exact h.pidMove (pidStep_move s)
  | adv =>
    obtain ⟨adv, q, env, rfl, hq⟩ := (advStep_move ha).writes
    exact ((h.setAdv adv).setCtlQ (hq.length_le.trans h.ctl)).setEnv env
  | dsp =>
    obtain ⟨dsp, q, off, env, rfl, hq⟩ := (dspStep_move ha).writes
    exact (((h.setDsp dsp).setEvbQ (hq.length_le.trans h.evb)).setSysOff off).setEnv env

/-! ## Inputs -/

theorem touchEdgeArrives (h : QueuesBounded s) : QueuesBounded (touchEdgeArrives s) := by
  have hlatch : ∀ latch, (s.tga.latchEdge latch).outq = s.tga.outq ∧ (s.tga.latchEdge latch).phase = s.tga.phase := by
    intro latch
    unfold Tga.latchEdge
    split <;> exact ⟨rfl, rfl⟩
  obtain ⟨hq, hp⟩ := hlatch s.cfg.tirqLatch
  unfold Machine.touchEdgeArrives
  split
  · exact h
  · exact h.setTga (hq ▸ h.tgaOut) (by rw [hq, hp]; exact h.tgaOutPhase)

theorem commandOffered (h : QueuesBounded s) (w : CcWord) : QueuesBounded (commandOffered w s) := by
  obtain ⟨hroom, he⟩ | ⟨-, he⟩ := commandOffered_cases w s
  · rw [he]; exact h.setCtlQ (by rw [List.length_append]; exact hroom)
  · rwa [he]

theorem elapseTime (h : QueuesBounded s) (ms : Nat) : QueuesBounded (elapseTime ms s) := by
  rw [elapseTime_eq]
  split
  · exact h.setEnv _
  · exact ⟨h.evb, h.ctl, h.tgaOut, h.pidOut, h.tgaOutPhase, h.pidOutPhase, h.stat⟩

theorem powerOn (cfg : Params) (env : Env) : QueuesBounded (State.powerOn cfg env) :=
  ⟨Nat.zero_le _, Nat.zero_le _, Nat.zero_le _, Nat.zero_le _, fun h => absurd rfl h, fun h => absurd rfl h,
    List.length_replicate⟩

end

end QueuesBounded

/-- Settles O52, by the moves a step can be: the bound of one iteration (R119) for TGA, of `pid_decode` for PID, and the
tests for room of the three pushes. -/
theorem stepKeepsQueuesBounded : Obligations.StepKeepsQueuesBounded := by
  intro s t h hstep
  cases step_move hstep with
  | waits a inp hc he => exact h.begin inp
  | agent a inp hc he ha => exact (h.begin inp).agentStep he ha
  | touchEdge hc => exact h.dropChoice.touchEdgeArrives
  | command w hc => exact h.dropChoice.commandOffered w
  | uiPowerOff hc =>
    obtain ⟨off, env, he⟩ := uiPowerOffArrives_writes s.dropChoice
    rw [he]; exact (h.dropChoice.setSysOff off).setEnv env
  | elapse ms hc => exact h.dropChoice.elapseTime ms
  | elapsedQuery hc =>
    obtain ⟨start, env, he⟩ := elapsedQueryArrives_writes s.dropChoice
    rw [he]; exact (h.dropChoice.setStartInstant start).setEnv env
  | powerOnReset hc => exact QueuesBounded.powerOn _ _

/-! ## The reset state -/

theorem TouchInv.reset : TouchInv Tga.reset where
  waitIdle _ := ⟨rfl, rfl⟩
  emptyIdle h := absurd h (by decide)
  keyKnown i h := by cases i <;> exact absurd h (by decide)

/-- Nothing has left the ports and no cycle is in progress. -/
theorem RadioInv.reset : RadioInv State.reset where
  addrOut _ _ h := nomatch h
  payloadOut _ _ _ h := nomatch h
  addrNow h := nomatch h
  payloadNow h := nomatch h

theorem BusInv.powerOn (cfg : Params) (env : Env) : BusInv (State.powerOn cfg env) where
  tgaOut _ h := nomatch h
  pidOut _ h := nomatch h
  bus _ h := nomatch h

theorem TimersBounded.powerOn (cfg : Params) (env : Env) : TimersBounded (State.powerOn cfg env) where
  tga h := absurd rfl h
  tgaMax := Nat.zero_le _
  pid h := absurd rfl h
  pidMax := Nat.zero_le _
  adv h := absurd rfl h
  advIdleMax h := nomatch h
  advHoldMax h := nomatch h
  advSettleMax h := nomatch h
  dsp h := absurd rfl h
  dspMax := Nat.zero_le _

theorem rngSeed_ne_zero_of_legal {p : Params} (h : p.legal = true) : p.rngSeed ≠ 0 := by
  simp only [Params.legal, Bool.and_eq_true, bne_iff_ne] at h
  exact h.2

/-- Settles O51: each invariant holds of the machine right after a power-on reset, with legal parameters. -/
theorem resetHasTheInvariants : Obligations.ResetHasTheInvariants :=
  ⟨Config.params_legal, QueuesBounded.powerOn _ _, TouchInv.reset, rfl, RadioInv.reset, .inr rfl, BusInv.powerOn _ _,
    TimersBounded.powerOn _ _, rngSeed_ne_zero_of_legal Config.params_legal⟩

end Sys2Proof.Machine
end

section
/-! The two queues at their ends (20_memory.md R51, R52, R61, R62): what each agent's step can do to `evb_q`, and what the
command port does to `ctl_q`. -/

namespace Sys2Proof.Machine

/-! ## The bus -/

/-- TGA leaves the bus or pushes one word at its tail (40_touch_arbiter.md R110). -/
theorem TgaMove.evbQ_cases {s t : State} (h : TgaMove s t) : t.evbQ = s.evbQ ∨ ∃ w, t.evbQ = s.evbQ ++ [w] := by
  cases h with
  | sessionStart hp => exact .inl rfl
  | readFails hp hr => exact .inl rfl
  | iteration sf hp hr => exact .inl rfl
  | allSent hp hq => exact .inl rfl
  | send e rest hp hq => exact .inr ⟨e, rfl⟩
  | wake hp => exact .inl rfl
  | halted hp => exact .inl rfl

/-- PID leaves the bus, also where it drops an event, or pushes one word at its tail (41_pmu_decoder.md R146). -/
theorem PidMove.evbQ_cases {s t : State} (h : PidMove s t) : t.evbQ = s.evbQ ∨ ∃ w, t.evbQ = s.evbQ ++ [w] := by
  cases h with
  | lineAsserted hp => exact .inl rfl
  | readFails hp hr => exact .inl rfl
  | read ps hp hr => exact .inl rfl
  | clearFails hp hr => exact .inl rfl
  | clear hp hr => exact .inl rfl
  | allSent hp hq => exact .inl rfl
  | send e rest hp hq =>
    obtain ⟨-, hdrop⟩ | ⟨-, hpush⟩ := queueTryPush_cases Config.evbCap s.evbQ e
    · exact .inl hdrop
    · exact .inr ⟨e, hpush⟩
  | wake hp => exact .inl rfl
  | halted hp => exact .inl rfl

/-- DSP leaves the bus or takes its head (43_event_bus_dispatcher.md R204). -/
theorem DspMove.evbQ_cases {s t : State} (h : DspMove s t) : t.evbQ = s.evbQ ∨ ∃ w, s.evbQ = w :: t.evbQ := by
  cases h with
  | event w rest i hp hq hd hx =>
    obtain ⟨dsp, off, env, rfl⟩ := exec_event_writes (decodeEv_format hd) hx
    exact .inr ⟨w, hq⟩
  | reservedEvent w rest err hp hq hd =>
    obtain ⟨env, he⟩ := lockGate_writes w (s.setEvbQ rest)
    exact .inr ⟨w, by rw [he]; exact hq⟩
  | drainEnds hp hq => exact .inl rfl
  | redraw hp =>
    obtain ⟨dsp, env, he⟩ := dspRedraw_writes s
    exact .inl (by rw [he])
  | wake hp => exact .inl rfl

theorem elapseTime_evbQ (ms : Nat) (s : State) : (elapseTime ms s).evbQ = s.evbQ := by
  rw [elapseTime_eq]
  split <;> rfl

/-- Settles O40, by the moves a step can be: of the agents TGA and PID can push, DSP can pop and ADV writes other registers;
of the inputs only a reset reaches the bus. -/
theorem busChangesOnlyAtItsEnds : Obligations.BusChangesOnlyAtItsEnds := by
  intro s t h
  cases step_move h with
  | waits a inp hc he => exact .inl (s.begin_evbQ inp)
  | agent a inp hc he ha =>
    rw [← s.begin_evbQ inp]
    cases a with
    | tga =>
      obtain hkeep | ⟨w, hpush⟩ := (tgaStep_move ha).evbQ_cases
      · exact .inl hkeep
      · exact .inr (.inl ⟨inp, w, .inl hc, hpush⟩)
    | pid =>
      cases ha
      obtain hkeep | ⟨w, hpush⟩ := (pidStep_move (s.begin inp)).evbQ_cases
      · exact .inl hkeep
      · exact .inr (.inl ⟨inp, w, .inr hc, hpush⟩)
    | adv => obtain ⟨adv, q, env, rfl, -⟩ := (advStep_move ha).writes; exact .inl rfl
    | dsp =>
      obtain hkeep | ⟨w, hpop⟩ := (dspStep_move ha).evbQ_cases
      · exact .inl hkeep
      · exact .inr (.inr (.inl ⟨inp, w, hc, hpop⟩))
  | touchEdge hc => obtain ⟨tga, he⟩ := touchEdgeArrives_writes s.dropChoice; exact .inl (by simp [he])
  | command w hc => obtain ⟨-, he⟩ | ⟨-, he⟩ := commandOffered_cases w s.dropChoice <;> exact .inl (by simp [he])
  | uiPowerOff hc => obtain ⟨off, env, he⟩ := uiPowerOffArrives_writes s.dropChoice; exact .inl (by simp [he])
  | elapse ms hc => exact .inl (by simp [elapseTime_evbQ])
  | elapsedQuery hc => obtain ⟨start, env, he⟩ := elapsedQueryArrives_writes s.dropChoice; exact .inl (by simp [he])
  | powerOnReset hc => exact .inr (.inr (.inr ⟨hc, rfl⟩))

/-! ## The command port -/

/-- Settles O39: the step is the port's, and the port takes the word or, at three waiting words, leaves everything. -/
theorem commandPortTakesThree : Obligations.CommandPortTakesThree := by
  intro s w hc
  have hstep : step s = .next (commandOffered w s.dropChoice) := step_of_choice hc
  have hport := commandOffered_cases w s.dropChoice
  rw [State.dropChoice_ctlQ] at hport
  obtain ⟨hroom, he⟩ | ⟨hfull, he⟩ := hport
  · exact ⟨fun _ => by rw [hstep, he]; rfl, fun hfull => absurd hroom (Nat.not_lt.2 hfull)⟩
  · exact ⟨fun hroom => absurd hroom (Nat.not_lt.2 hfull), fun _ => by rw [hstep, he]⟩

end Sys2Proof.Machine
end

section
/-! Encoding and decoding are inverse (30_encoding.md R71, R73, R74, R75, R77): the fields of a word put together from fields,
a word put together from its own fields, and for each format everything the decoder can answer. -/

namespace Sys2Proof

/-! ## Codes of the small fields -/

@[simp] theorem TouchId.ofBit_bit (i : TouchId) : TouchId.ofBit i.bit = i := by cases i <;> rfl

@[simp] theorem TouchId.bit_ofBit (b : BitVec 1) : (TouchId.ofBit b).bit = b := by
  obtain rfl | rfl := b.eq_zero_or_eq_one <;> rfl

@[simp] theorem AdvMode.ofBit_bit (m : AdvMode) : AdvMode.ofBit m.bit = m := by cases m <;> rfl

@[simp] theorem AdvMode.bit_ofBit (b : BitVec 1) : (AdvMode.ofBit b).bit = b := by
  obtain rfl | rfl := b.eq_zero_or_eq_one <;> rfl

/-- A field of one bit is the bit. -/
theorem extractLsb'_one_eq {n : Nat} (w : BitVec n) (k : Nat) : w.extractLsb' k 1 = BitVec.ofBool (w.getLsbD k) := by
  ext i hi
  obtain rfl : i = 0 := by omega
  simp

/-! ## Touch points (R71) -/

/-- Each field of a touch point word is the one it was put together from. -/
@[simp] theorem fields_encodeTp (state : BitVec 2) (z : BitVec 1) (id : TouchId) (x y : Coord) :
    TpWord.state (encodeTp state z id x y) = state ∧ TpWord.reserved (encodeTp state z id x y) = z
    ∧ TpWord.id (encodeTp state z id x y) = id ∧ TpWord.x (encodeTp state z id x y) = x
    ∧ TpWord.y (encodeTp state z id x y) = y := by
  simp (disch := omega) only [TpWord.state, TpWord.reserved, TpWord.id, TpWord.x, TpWord.y, encodeTp, TouchId.ofBit_bit,
    BitVec.extractLsb'_append_eq_of_le, BitVec.extractLsb'_append_eq_of_add_le, Nat.reduceSub, BitVec.extractLsb'_eq_self,
    and_self]

theorem encodeTp_fields (w : TpWord) : encodeTp w.state w.reserved w.id w.x w.y = w := by
  simp (disch := omega) only [encodeTp, TpWord.state, TpWord.reserved, TpWord.id, TpWord.x, TpWord.y, TouchId.bit_ofBit,
    BitVec.extractLsb'_append_extractLsb'_eq_extractLsb']
  exact BitVec.extractLsb'_eq_self

/-- Everything the decoder can answer to a touch point word, by its `state`. -/
inductive TpDecodes (w : TpWord) : Except DecodeError Instr → Prop where
  | pressed (h : w.state = 0) : TpDecodes w (.ok (.tpPressed w.reserved w.id w.x w.y))
  | released (h : w.state = 1) : TpDecodes w (.ok (.tpReleased w.reserved w.id w.x w.y))
  | moved (h : w.state = 2) : TpDecodes w (.ok (.tpMoved w.reserved w.id w.x w.y))
  | reservedState (h : w.state = 3) : TpDecodes w (.error .reservedTouchState)

theorem decodeTp_decodes (w : TpWord) : TpDecodes w (decodeTp w) := by
  unfold decodeTp
  split_ifs with h0 h1 h2
  · exact .pressed h0
  · exact .released h1
  · exact .moved h2
  · exact .reservedState (by bv_omega)

/-! ## Commands (R75) -/

/-- Each field of a command word is the one it was put together from. -/
@[simp] theorem fields_encodeCc (unused : BitVec 3) (op : BitVec 2) (level : BitVec 3) :
    (encodeCc unused op level).extractLsb' 5 3 = unused ∧ (encodeCc unused op level).extractLsb' 3 2 = op
    ∧ (encodeCc unused op level).extractLsb' 0 3 = level := by
  simp (disch := omega) only [encodeCc, BitVec.extractLsb'_append_eq_of_le, BitVec.extractLsb'_append_eq_of_add_le,
    Nat.reduceSub, BitVec.extractLsb'_eq_self, and_self]

theorem encodeCc_fields (w : CcWord) : encodeCc (w.extractLsb' 5 3) (w.extractLsb' 3 2) (w.extractLsb' 0 3) = w := by
  simp (disch := omega) only [encodeCc, BitVec.extractLsb'_append_extractLsb'_eq_extractLsb']
  exact BitVec.extractLsb'_eq_self

/-- Everything the decoder can answer to a command word, by its `op`. -/
inductive CcDecodes (w : CcWord) : Instr → Prop where
  | start (h : w.extractLsb' 3 2 = 0) : CcDecodes w (.start (w.extractLsb' 5 3) (w.extractLsb' 0 3))
  | stop (h : w.extractLsb' 3 2 = 1) : CcDecodes w (.stop (w.extractLsb' 5 3) (w.extractLsb' 0 3))
  | setPower (h : w.extractLsb' 3 2 = 2) : CcDecodes w (.setPower (w.extractLsb' 5 3) (w.extractLsb' 0 3))
  | terminate (h : w.extractLsb' 3 2 = 3) : CcDecodes w (.terminate (w.extractLsb' 5 3) (w.extractLsb' 0 3))

theorem decodeCc_decodes (w : CcWord) : CcDecodes w (decodeCc w) := by
  simp only [decodeCc]
  split_ifs with h0 h1 h2
  · exact .start h0
  · exact .stop h1
  · exact .setPower h2
  · exact .terminate (by bv_omega)

/-! ## Event words (R73, R74) -/

@[simp] theorem encodeWindow_tag (kind : BitVec 3) (f : WindowFields) : EvWord.tag (encodeWindow kind f) = false := by
  simp only [EvWord.tag, encodeWindow, BitVec.getLsbD_append]
  rfl

/-- The kind and the other fields of a window word are those it was put together from. -/
@[simp] theorem fields_encodeWindow (kind : BitVec 3) (f : WindowFields) :
    EvWord.kind (encodeWindow kind f) = kind ∧ EvWord.fields (encodeWindow kind f) = f := by
  simp (disch := omega) only [EvWord.kind, EvWord.fields, encodeWindow, BitVec.extractLsb'_append_eq_of_le,
    BitVec.extractLsb'_append_eq_of_add_le, Nat.reduceSub, BitVec.extractLsb'_eq_self, and_self]

theorem encodeWindow_fields {w : EvWord} (h : w.tag = false) : encodeWindow w.kind w.fields = w := by
  have htag : 0#1 = w.extractLsb' 39 1 := by rw [extractLsb'_one_eq, ← EvWord.tag, h]; rfl
  simp (disch := omega) only [encodeWindow, EvWord.kind, EvWord.fields, htag,
    BitVec.extractLsb'_append_extractLsb'_eq_extractLsb']
  exact BitVec.extractLsb'_eq_self

@[simp] theorem encodePmu_tag (unused : BitVec 33) (reg bit : BitVec 3) : EvWord.tag (encodePmu unused reg bit) = true := by
  simp only [EvWord.tag, encodePmu, BitVec.getLsbD_append]
  rfl

/-- Each field of a PMU word is the one it was put together from. -/
@[simp] theorem fields_encodePmu (unused : BitVec 33) (reg bit : BitVec 3) :
    (encodePmu unused reg bit).extractLsb' 6 33 = unused ∧ (encodePmu unused reg bit).extractLsb' 3 3 = reg
    ∧ (encodePmu unused reg bit).extractLsb' 0 3 = bit := by
  simp (disch := omega) only [encodePmu, BitVec.extractLsb'_append_eq_of_le, BitVec.extractLsb'_append_eq_of_add_le,
    Nat.reduceSub, BitVec.extractLsb'_eq_self, and_self]

theorem encodePmu_fields {w : EvWord} (h : w.tag = true) :
    encodePmu (w.extractLsb' 6 33) (w.extractLsb' 3 3) (w.extractLsb' 0 3) = w := by
  have htag : 1#1 = w.extractLsb' 39 1 := by rw [extractLsb'_one_eq, ← EvWord.tag, h]; rfl
  simp (disch := omega) only [encodePmu, htag, BitVec.extractLsb'_append_extractLsb'_eq_extractLsb']
  exact BitVec.extractLsb'_eq_self

/-- Everything the decoder can answer to an event word, by its `tag` and `kind`. -/
inductive EvDecodes (w : EvWord) : Except DecodeError Instr → Prop where
  | pmu (ht : w.tag = true) :
      EvDecodes w (.ok (.evPmu (w.extractLsb' 6 33) (w.extractLsb' 3 3) (w.extractLsb' 0 3)))
  | ptrPressed (ht : w.tag = false) (h : w.kind = 0) : EvDecodes w (.ok (.evPtrPressed w.fields))
  | ptrMoved (ht : w.tag = false) (h : w.kind = 1) : EvDecodes w (.ok (.evPtrMoved w.fields))
  | ptrReleased (ht : w.tag = false) (h : w.kind = 2) : EvDecodes w (.ok (.evPtrReleased w.fields))
  | ptrExited (ht : w.tag = false) (h : w.kind = 3) : EvDecodes w (.ok (.evPtrExited w.fields))
  | keyPressed (ht : w.tag = false) (h : w.kind = 4) : EvDecodes w (.ok (.evKeyPressed w.fields))
  | keyReleased (ht : w.tag = false) (h : w.kind = 5) : EvDecodes w (.ok (.evKeyReleased w.fields))
  | reservedKind (ht : w.tag = false) (h : w.kind = 6 ∨ w.kind = 7) : EvDecodes w (.error .reservedEventKind)

theorem decodeEv_decodes (w : EvWord) : EvDecodes w (decodeEv w) := by
  unfold decodeEv
  cases ht : w.tag
  · rw [if_neg Bool.false_ne_true]
    split_ifs with h0 h1 h2 h3 h4 h5
    · exact .ptrPressed ht h0
    · exact .ptrMoved ht h1
    · exact .ptrReleased ht h2
    · exact .ptrExited ht h3
    · exact .keyPressed ht h4
    · exact .keyReleased ht h5
    · exact .reservedKind ht (by bv_omega)
  · exact .pmu ht

/-! ## Radio operations (R77) -/

/-- A radio operation code with operand bytes of another shape than its operation has (log entry 7). -/
def BadRadioOperands (op : BitVec 3) (bytes : List Byte) : Prop :=
  (op = 0#3 ∧ bytes.length ≠ 6)
  ∨ (op = 1#3 ∧ ¬ ∃ v : Byte, bytes = [v] ∧ v.toNat < 8)
  ∨ (op = 2#3 ∧ ¬ ∃ (m : Byte) (payload : List Byte), bytes = m :: payload ∧ m.toNat < 2)
  ∨ ((op = 3#3 ∨ op = 4#3) ∧ bytes ≠ [])

/-- A byte below `2 ^ k` is its `k` low bits. -/
theorem setWidth_extractLsb'_of_lt {v : Byte} {k : Nat} (hv : v.toNat < 2 ^ k) : (v.extractLsb' 0 k).setWidth 8 = v := by
  apply BitVec.eq_of_toNat_eq
  rw [BitVec.toNat_setWidth, BitVec.extractLsb'_toNat, Nat.shiftRight_zero, Nat.mod_eq_of_lt hv, Nat.mod_eq_of_lt v.isLt]

theorem toNat_setWidth_byte_lt {k : Nat} (v : BitVec k) : (v.setWidth 8).toNat < 2 ^ k := by
  rw [BitVec.toNat_setWidth]
  exact (Nat.mod_le _ _).trans_lt v.isLt

/-- Everything the decoder can answer to a radio message, by its code and the shape of its operands. -/
inductive RoDecodes (op : BitVec 3) (bytes : List Byte) : Except DecodeError Instr → Prop where
  | setAddr (a : Address) (hop : op = 0) (hb : bytes = a.bytes) : RoDecodes op bytes (.ok (.roSetAddr a))
  | setTxpwr (step : BitVec 3) (hop : op = 1) (hb : bytes = [step.setWidth 8]) : RoDecodes op bytes (.ok (.roSetTxpwr step))
  | setAdv (mode : AdvMode) (payload : List Byte) (hop : op = 2) (hb : bytes = mode.bit.setWidth 8 :: payload) :
      RoDecodes op bytes (.ok (.roSetAdv mode payload))
  | startAdv (hop : op = 3) (hb : bytes = []) : RoDecodes op bytes (.ok .roStartAdv)
  | stopAdv (hop : op = 4) (hb : bytes = []) : RoDecodes op bytes (.ok .roStopAdv)
  | badOperands (h : BadRadioOperands op bytes) : RoDecodes op bytes (.error .badRadioOperands)
  | reservedOp (h : 5 ≤ op.toNat) : RoDecodes op bytes (.error .reservedRadioOp)

/-- Six bytes are an address. -/
theorem Address.exists_bytes_eq {l : List Byte} (h : l.length = 6) : ∃ a : Address, a.bytes = l :=
  match l, h with
  | [b0, b1, b2, b3, b4, b5], _ => ⟨⟨b0, b1, b2, b3, b4, b5⟩, rfl⟩

theorem decodeRo_decodes (op : BitVec 3) (bytes : List Byte) : RoDecodes op bytes (decodeRo op bytes) := by
  unfold decodeRo
  split_ifs with h0 h1 h2 h3 h4
  · split
    next b0 b1 b2 b3 b4 b5 => exact .setAddr ⟨b0, b1, b2, b3, b4, b5⟩ h0 rfl
    next hne => exact .badOperands (.inl ⟨h0, fun hlen =>
        let ⟨a, ha⟩ := Address.exists_bytes_eq hlen
        hne a.b0 a.b1 a.b2 a.b3 a.b4 a.b5 ha.symm⟩)
  · split
    next v =>
      split_ifs with hv
      · exact .setTxpwr _ h1 (by rw [setWidth_extractLsb'_of_lt hv])
      · exact .badOperands (.inr (.inl ⟨h1, fun ⟨v', hb, hv'⟩ => hv (by cases hb; exact hv')⟩))
    next hne => exact .badOperands (.inr (.inl ⟨h1, fun ⟨v, hb, _⟩ => hne v hb⟩))
  · split
    next m payload =>
      split_ifs with hm
      · exact .setAdv _ payload h2 (by rw [AdvMode.bit_ofBit, setWidth_extractLsb'_of_lt hm])
      · exact .badOperands (.inr (.inr (.inl ⟨h2, fun ⟨m', p', hb, hm'⟩ => hm (by cases hb; exact hm')⟩)))
    next => exact .badOperands (.inr (.inr (.inl ⟨h2, fun ⟨m, p, hb, _⟩ => nomatch hb⟩)))
  · split
    next => exact .startAdv h3 rfl
    next b rest => exact .badOperands (.inr (.inr (.inr ⟨.inl h3, List.cons_ne_nil b rest⟩)))
  · split
    next => exact .stopAdv h4 rfl
    next b rest => exact .badOperands (.inr (.inr (.inr ⟨.inr h4, List.cons_ne_nil b rest⟩)))
  · exact .reservedOp (by bv_omega)

/-- The shape of the operands is bad only for a code that is an operation. -/
theorem BadRadioOperands.code_lt {op : BitVec 3} {bytes : List Byte} (h : BadRadioOperands op bytes) : op.toNat < 5 := by
  obtain ⟨rfl, -⟩ | ⟨rfl, -⟩ | ⟨rfl, -⟩ | ⟨rfl | rfl, -⟩ := h <;> decide

/-! ## All formats -/

/-- Settles O1, by the item: each field of its word is read back from where it was put. -/
theorem decodeEncodeRoundTrip : Obligations.DecodeEncodeRoundTrip := by
  intro i
  cases i with
  | tpPressed z id x y => simp [encode, decode, decodeTp]
  | tpReleased z id x y => simp [encode, decode, decodeTp]
  | tpMoved z id x y => simp [encode, decode, decodeTp]
  | start unused level => simp [encode, decode, decodeCc]
  | stop unused level => simp [encode, decode, decodeCc]
  | setPower unused level => simp [encode, decode, decodeCc]
  | terminate unused level => simp [encode, decode, decodeCc]
  | evPtrPressed f => simp [encode, decode, decodeEv]
  | evPtrMoved f => simp [encode, decode, decodeEv]
  | evPtrReleased f => simp [encode, decode, decodeEv]
  | evPtrExited f => simp [encode, decode, decodeEv]
  | evKeyPressed f => simp [encode, decode, decodeEv]
  | evKeyReleased f => simp [encode, decode, decodeEv]
  | evPmu unused reg bit => simp [encode, decode, decodeEv]
  | roSetAddr a => rfl
  | roSetTxpwr step =>
    have hlt : (step.setWidth 8).toNat < 8 := toNat_setWidth_byte_lt step
    simp [encode, decode, decodeRo, hlt, BitVec.extractLsb'_setWidth_of_le, -BitVec.toNat_setWidth]
  | roSetAdv mode payload =>
    have hlt : (mode.bit.setWidth 8).toNat < 2 := toNat_setWidth_byte_lt mode.bit
    simp [encode, decode, decodeRo, hlt, BitVec.extractLsb'_setWidth_of_le, -BitVec.toNat_setWidth]
  | roStartAdv => rfl
  | roStopAdv => rfl

/-- Settles O2, by what the decoder can answer for each format: the word is put together from its own fields again. -/
theorem encodeOfDecodedMessage : Obligations.EncodeOfDecodedMessage := by
  intro m i h
  cases m with
  | tp w =>
    have hd := decodeTp_decodes w
    rw [show decodeTp w = .ok i from h] at hd
    cases hd with
    | pressed hs => rw [encode, ← hs, encodeTp_fields]
    | released hs => rw [encode, ← hs, encodeTp_fields]
    | moved hs => rw [encode, ← hs, encodeTp_fields]
  | cc w =>
    have hd := decodeCc_decodes w
    rw [show decodeCc w = i from Except.ok.inj h] at hd
    cases hd with
    | start hop => rw [encode, ← hop, encodeCc_fields]
    | stop hop => rw [encode, ← hop, encodeCc_fields]
    | setPower hop => rw [encode, ← hop, encodeCc_fields]
    | terminate hop => rw [encode, ← hop, encodeCc_fields]
  | ev w =>
    have hd := decodeEv_decodes w
    rw [show decodeEv w = .ok i from h] at hd
    cases hd with
    | pmu ht => rw [encode, encodePmu_fields ht]
    | ptrPressed ht hk => rw [encode, ← hk, encodeWindow_fields ht]
    | ptrMoved ht hk => rw [encode, ← hk, encodeWindow_fields ht]
    | ptrReleased ht hk => rw [encode, ← hk, encodeWindow_fields ht]
    | ptrExited ht hk => rw [encode, ← hk, encodeWindow_fields ht]
    | keyPressed ht hk => rw [encode, ← hk, encodeWindow_fields ht]
    | keyReleased ht hk => rw [encode, ← hk, encodeWindow_fields ht]
  | ro op bytes =>
    have hd := decodeRo_decodes op bytes
    rw [show decodeRo op bytes = .ok i from h] at hd
    cases hd with
    | setAddr a hop hb => rw [hop, hb, encode]
    | setTxpwr step hop hb => rw [hop, hb, encode]
    | setAdv mode payload hop hb => rw [hop, hb, encode]
    | startAdv hop hb => rw [hop, hb, encode]
    | stopAdv hop hb => rw [hop, hb, encode]

/-- Settles O3: the decoder's tests on `op` are the statement's. -/
theorem everyCommandWordDecodes : Obligations.EveryCommandWordDecodes := by
  intro w
  refine ⟨fun h => ?_, fun h => ?_, fun h => ?_, fun h => ?_⟩
  all_goals simp [decode, decodeCc, h]

/-- Settles O5, by running the decoder on the ten words. -/
theorem vectorWordsDecode : Obligations.VectorWordsDecode := by
  refine ⟨?_, ?_, ?_, ?_, ?_, ?_, ?_, ?_, ?_, ?_⟩
  all_goals decide

/-! ## The messages that are no item -/

theorem decodeTp_eq_error_iff (w : TpWord) : decodeTp w = .error .reservedTouchState ↔ w.state = 3 := by
  have hd := decodeTp_decodes w
  generalize decodeTp w = r at hd ⊢
  cases hd with
  | pressed h => simp [h]
  | released h => simp [h]
  | moved h => simp [h]
  | reservedState h => simp [h]

theorem exists_decodeTp_eq_ok {w : TpWord} (hw : w.state ≠ 3) : ∃ i, decodeTp w = .ok i := by
  have hd := decodeTp_decodes w
  generalize decodeTp w = r at hd ⊢
  cases hd with
  | reservedState h => exact absurd h hw
  | _ => exact ⟨_, rfl⟩

theorem decodeEv_eq_error_iff (w : EvWord) :
    decodeEv w = .error .reservedEventKind ↔ w.tag = false ∧ (w.kind = 6 ∨ w.kind = 7) := by
  have hd := decodeEv_decodes w
  generalize decodeEv w = r at hd ⊢
  cases hd with
  | pmu ht => simp [ht]
  | ptrPressed ht h => simp [h]
  | ptrMoved ht h => simp [h]
  | ptrReleased ht h => simp [h]
  | ptrExited ht h => simp [h]
  | keyPressed ht h => simp [h]
  | keyReleased ht h => simp [h]
  | reservedKind ht h => exact iff_of_true rfl ⟨ht, h⟩

theorem exists_decodeEv_eq_ok {w : EvWord} (hw : ¬ (w.tag = false ∧ (w.kind = 6 ∨ w.kind = 7))) :
    ∃ i, decodeEv w = .ok i := by
  have hd := decodeEv_decodes w
  generalize decodeEv w = r at hd ⊢
  cases hd with
  | reservedKind ht h => exact absurd ⟨ht, h⟩ hw
  | _ => exact ⟨_, rfl⟩

/-- The operands of an item's own message are of the right shape. -/
theorem RoDecodes.not_bad {op : BitVec 3} {bytes : List Byte} {i : Instr} (h : RoDecodes op bytes (.ok i)) :
    ¬ BadRadioOperands op bytes := by
  cases h with
  | setAddr a hop hb => simp [BadRadioOperands, hop, hb, Address.bytes]
  | setTxpwr step hop hb =>
    have hlt : (step.setWidth 8).toNat < 8 := toNat_setWidth_byte_lt step
    simp [BadRadioOperands, hop, hb, hlt, -BitVec.toNat_setWidth]
  | setAdv mode payload hop hb =>
    have hle : (mode.bit.setWidth 8).toNat ≤ 1 := Nat.le_of_lt_succ (toNat_setWidth_byte_lt mode.bit)
    simp [BadRadioOperands, hop, hb, hle, -BitVec.toNat_setWidth]
  | startAdv hop hb => simp [BadRadioOperands, hop, hb]
  | stopAdv hop hb => simp [BadRadioOperands, hop, hb]

theorem RoDecodes.code_lt {op : BitVec 3} {bytes : List Byte} {i : Instr} (h : RoDecodes op bytes (.ok i)) :
    op.toNat < 5 := by
  cases h with
  | setAddr a hop hb => simp [hop]
  | setTxpwr step hop hb => simp [hop]
  | setAdv mode payload hop hb => simp [hop]
  | startAdv hop hb => simp [hop]
  | stopAdv hop hb => simp [hop]

/-- What the decoder answers to a radio message: of a reserved code, of operands of another shape, and an item else. -/
theorem decodeRo_answers (op : BitVec 3) (bytes : List Byte) :
    (decodeRo op bytes = .error .reservedRadioOp ↔ 5 ≤ op.toNat)
    ∧ (decodeRo op bytes = .error .badRadioOperands ↔ BadRadioOperands op bytes)
    ∧ (op.toNat < 5 → ¬ BadRadioOperands op bytes → ∃ i, decodeRo op bytes = .ok i) := by
  have hd := decodeRo_decodes op bytes
  generalize decodeRo op bytes = r at hd ⊢
  match r, hd with
  | .ok i, hd =>
    exact ⟨iff_of_false nofun hd.code_lt.not_ge, iff_of_false nofun hd.not_bad, fun _ _ => ⟨i, rfl⟩⟩
  | _, .badOperands h =>
    exact ⟨iff_of_false nofun h.code_lt.not_ge, iff_of_true rfl h, fun _ hgood => absurd h hgood⟩
  | _, .reservedOp h =>
    exact ⟨iff_of_true rfl h, iff_of_false nofun fun hbad => hbad.code_lt.not_ge h, fun hlt => absurd h hlt.not_ge⟩

/-- Settles O4, format by format: each refusal of the decoder has its own reserved code or shape, and what has none is an
item. -/
theorem reservedEncodingsHaveNoItem : Obligations.ReservedEncodingsHaveNoItem :=
  ⟨decodeTp_eq_error_iff, fun _ => exists_decodeTp_eq_ok, decodeEv_eq_error_iff, fun _ => exists_decodeEv_eq_ok,
    fun w => ⟨decodeCc w, rfl⟩, decodeRo_answers⟩

end Sys2Proof
end

section
/-! Every word on its way to DSP is one TGA or PID generates (30_encoding.md R73, R74, R81): the words the two producers put
into their out-queues are canonical, and from there a word only moves to the bus. -/

namespace Sys2Proof.Machine

/-! ## The words TGA generates -/

/-- A word without the `tag` bit that is the message of a canonical item is a window word. -/
theorem windowWord_of_encode {w : EvWord} {i : Instr} (ht : w.tag = false) (he : encode i = .ev w) (hwf : i.wf = true) :
    WindowWord w :=
  ⟨ht, i, he ▸ decodeEncodeRoundTrip i, hwf⟩

theorem windowWord_pointerPressed (p : Pos) : WindowWord (pointerPressed p) :=
  windowWord_of_encode (i := .evPtrPressed (posFields p)) (encodeWindow_tag _ _) rfl rfl

theorem windowWord_pointerMoved (p : Pos) : WindowWord (pointerMoved p) :=
  windowWord_of_encode (i := .evPtrMoved (posFields p)) (encodeWindow_tag _ _) rfl rfl

theorem windowWord_pointerReleased (p : Pos) : WindowWord (pointerReleased p) :=
  windowWord_of_encode (i := .evPtrReleased (posFields p)) (encodeWindow_tag _ _) rfl rfl

theorem windowWord_pointerExited : WindowWord pointerExited :=
  windowWord_of_encode (i := .evPtrExited ⟨0, 0, 0, 0, 0⟩) (encodeWindow_tag _ _) rfl rfl

/-- The key code of a key event is never the reserved one. -/
theorem keyFields_wf (k : Key) : (keyFields k).keyWf = true := by cases k <;> rfl

theorem windowWord_keyPressed (k : Key) : WindowWord (keyPressed k) :=
  windowWord_of_encode (i := .evKeyPressed (keyFields k)) (encodeWindow_tag _ _) rfl (keyFields_wf k)

theorem windowWord_keyReleased (k : Key) : WindowWord (keyReleased k) :=
  windowWord_of_encode (i := .evKeyReleased (keyFields k)) (encodeWindow_tag _ _) rfl (keyFields_wf k)

/-! ## TGA's out-queue -/

/-- TGA's out-queue holds window words alone. -/
def Tga.OutqWindow (t : Tga) : Prop := ∀ w ∈ t.outq, WindowWord w

namespace Tga.OutqWindow

variable {t : Tga}

theorem of_outq_eq {u : Tga} (h : t.OutqWindow) (hq : u.outq = t.outq) : u.OutqWindow := fun w hw => h w (hq ▸ hw)

theorem emit (h : t.OutqWindow) {e : EvWord} (he : WindowWord e) : (t.emit e).OutqWindow := by
  intro w hw
  obtain hw | rfl : w ∈ t.outq ∨ w = e := by simpa using hw
  · exact h w hw
  · exact he

theorem emit_markActive (h : t.OutqWindow) {e : EvWord} (he : WindowWord e) (i : TouchId) (p : Pos) :
    ((t.emit e).markActive i p).OutqWindow :=
  (h.emit he).of_outq_eq (Tga.markActive_outq _ _ _)

theorem gesturePoint (h : t.OutqWindow) (p : Point) : (t.gesturePoint p).OutqWindow := by
  have hclaim : (t.claim p.id).OutqWindow := h.of_outq_eq (Tga.claim_outq t p.id)
  obtain ⟨-, hv⟩ | ⟨-, -, hv⟩ | ⟨-, -, hv⟩ | ⟨-, -, hv⟩ := t.gesturePoint_cases p
  · rw [hv]; exact hclaim
  · rw [hv]; exact hclaim
  · rw [hv]; exact hclaim.emit_markActive (windowWord_pointerMoved _) _ _
  · rw [hv]; exact hclaim.emit_markActive (windowWord_pointerPressed _) _ _

theorem buttonPoint (h : t.OutqWindow) (p : Point) : (t.buttonPoint p).OutqWindow := by
  obtain hv | ⟨k, -, -, -, hv⟩ := t.buttonPoint_cases p
  · rw [hv]; exact h
  · rw [hv]; exact h.emit_markActive (windowWord_keyPressed k) _ _

theorem visitPoint (h : t.OutqWindow) (p : Point) : (t.visitPoint p).OutqWindow := by
  unfold Tga.visitPoint
  split
  · exact h.gesturePoint p
  · exact h.buttonPoint p

theorem visitAll (h : t.OutqWindow) (ws : List TpWord) : (t.visitAll ws).OutqWindow := by
  induction ws generalizing t with
  | nil => exact h
  | cons w ws ih => exact ih (h.visitPoint (pointOf w))

theorem releaseId (h : t.OutqWindow) (i : TouchId) : (t.releaseId i).OutqWindow := by
  have hoff : (t.markInactive i).OutqWindow := h.of_outq_eq (Tga.markInactive_outq t i)
  obtain ⟨-, hr⟩ | ⟨k, -, -, hr⟩ | ⟨-, -, hr⟩ := t.releaseId_cases i
  · rw [hr]; exact ((hoff.emit (windowWord_pointerReleased _)).emit windowWord_pointerExited).of_outq_eq rfl
  · rw [hr]; exact hoff.emit (windowWord_keyReleased k)
  · rw [hr]; exact hoff

theorem releaseIfAbsent (h : t.OutqWindow) (seen : List TouchId) (i : TouchId) :
    (t.releaseIfAbsent seen i).OutqWindow := by
  obtain ⟨-, -, hr⟩ | ⟨-, hr⟩ := Tga.releaseIfAbsent_cases seen i t
  · rw [hr]; exact h.releaseId i
  · rw [hr]; exact h

theorem iterate (h : t.OutqWindow) (l : List TpWord) : (t.iterate l).OutqWindow :=
  (((h.visitAll (visitOrder l)).releaseIfAbsent (seenIds l) .id0).releaseIfAbsent (seenIds l) .id1).of_outq_eq
    (Tga.iterate_outq t l)

end Tga.OutqWindow

/-! ## The words PID generates -/

/-- An event of a register is of a status bit that the mask keeps. -/
theorem pmuWord_of_mem_decodeRegister {cfg : Params} {stat : List Byte} {r : Nat} {w : EvWord} (hr : r < cfg.pmuNreg)
    (hw : w ∈ decodeRegister (maskedByte cfg stat r) r) : PmuWord cfg w := by
  obtain ⟨b, hb, rfl⟩ := List.mem_map.1 hw
  obtain ⟨hlt, hbit⟩ := List.mem_filter.1 hb
  rw [maskedByte, BitVec.getLsbD_and, Bool.and_eq_true] at hbit
  obtain ⟨-, hmask⟩ := hbit
  exact ⟨r, b, hr, List.mem_range.1 hlt, hmask, rfl⟩

theorem pmuWord_of_mem_pidDecode {cfg : Params} {stat : List Byte} {w : EvWord} (hw : w ∈ pidDecode cfg stat) :
    PmuWord cfg w := by
  obtain ⟨r, hr, hw⟩ := List.mem_flatMap.1 hw
  exact pmuWord_of_mem_decodeRegister (List.mem_range.1 hr) hw

/-! ## The invariant -/

namespace BusInv

variable {s t : State}

/-- No new word in the three queues: the invariant stays. -/
theorem of_subset (h : BusInv s) (hcfg : t.cfg = s.cfg) (htga : t.tga.outq ⊆ s.tga.outq) (hpid : t.pid.outq ⊆ s.pid.outq)
    (hbus : t.evbQ ⊆ s.evbQ) : BusInv t where
  tgaOut w hw := h.tgaOut w (htga hw)
  pidOut w hw := hcfg ▸ h.pidOut w (hpid hw)
  bus w hw := hcfg ▸ h.bus w (hbus hw)

/-- The three queues as they are: the invariant stays. -/
theorem of_eq (h : BusInv s) (hcfg : t.cfg = s.cfg) (htga : t.tga.outq = s.tga.outq) (hpid : t.pid.outq = s.pid.outq)
    (hbus : t.evbQ = s.evbQ) : BusInv t :=
  h.of_subset hcfg (htga ▸ List.Subset.refl _) (hpid ▸ List.Subset.refl _) (hbus ▸ List.Subset.refl _)

theorem dropChoice (h : BusInv s) : BusInv s.dropChoice := h.of_eq (by simp) (by simp) (by simp) (by simp)

theorem begin (h : BusInv s) (inp : Inputs) : BusInv (s.begin inp) := h.of_eq (by simp) (by simp) (by simp) (by simp)

/-! ## Agents -/

theorem tgaMove (h : BusInv s) (hm : TgaMove s t) : BusInv t := by
  cases hm with
  | sessionStart hp => exact h.of_eq rfl rfl rfl rfl
  | readFails hp hr => exact h.of_eq rfl rfl rfl rfl
  | iteration sf hp hr => exact ⟨Tga.OutqWindow.iterate h.tgaOut _, h.pidOut, h.bus⟩
  | allSent hp hq => exact h.of_eq rfl rfl rfl rfl
  | send e rest hp hq =>
    obtain ⟨hhead, htail⟩ := List.forall_mem_cons.1 (hq ▸ h.tgaOut)
    refine ⟨htail, h.pidOut, fun w hw => ?_⟩
    obtain hw | rfl : w ∈ s.evbQ ∨ w = e := by simpa using hw
    · exact h.bus w hw
    · exact .inl hhead
  | wake hp => exact h.of_eq rfl rfl rfl rfl
  | halted hp => exact h

theorem pidMove (h : BusInv s) (hm : PidMove s t) : BusInv t := by
  cases hm with
  | lineAsserted hp => exact h.of_eq rfl rfl rfl rfl
  | readFails hp hr => exact h.of_eq rfl rfl rfl rfl
  | read ps hp hr => exact h.of_eq rfl rfl rfl rfl
  | clearFails hp hr => exact h.of_eq rfl rfl rfl rfl
  | clear hp hr => exact ⟨h.tgaOut, fun _ hw => pmuWord_of_mem_pidDecode hw, h.bus⟩
  | allSent hp hq => exact h.of_eq rfl rfl rfl rfl
  | send e rest hp hq =>
    obtain ⟨hhead, htail⟩ := List.forall_mem_cons.1 (hq ▸ h.pidOut)
    refine ⟨h.tgaOut, htail, fun w hw => ?_⟩
    obtain ⟨-, hdrop⟩ | ⟨-, hpush⟩ := queueTryPush_cases Config.evbCap s.evbQ e
    · exact h.bus w (hdrop ▸ hw)
    · obtain hw | rfl : w ∈ s.evbQ ∨ w = e := by simpa [hpush] using hw
      · exact h.bus w hw
      · exact .inr hhead
  | wake hp => exact h.of_eq rfl rfl rfl rfl
  | halted hp => exact h

theorem agentStep {a : Agent} (h : BusInv s) (ha : agentStep a s = .next t) : BusInv t := by
  cases a with
  | tga => exact h.tgaMove (tgaStep_move ha)
  | pid => cases ha; exact h.pidMove (pidStep_move s)
  | adv => obtain ⟨adv, q, env, rfl, -⟩ := (advStep_move ha).writes; exact h.of_eq rfl rfl rfl rfl
  | dsp =>
    obtain ⟨dsp, q, off, env, rfl, hq⟩ := (dspStep_move ha).writes
    exact h.of_subset rfl (List.Subset.refl _) (List.Subset.refl _) hq.subset

/-! ## Inputs -/

theorem touchEdgeArrives (h : BusInv s) : BusInv (touchEdgeArrives s) := by
  unfold Machine.touchEdgeArrives Tga.latchEdge
  split_ifs
  · exact h
  · exact h.of_eq rfl rfl rfl rfl
  · exact h

theorem elapseTime (h : BusInv s) (ms : Nat) : BusInv (elapseTime ms s) := by
  rw [elapseTime_eq]
  split <;> exact h.of_eq rfl rfl rfl rfl

end BusInv

/-- Settles O57, by the moves a step can be: TGA and PID put only their own words into their out-queues and move them to the
bus unchanged, DSP takes words away, and nothing else reaches the three queues. -/
theorem stepKeepsBusInv : Obligations.StepKeepsBusInv := by
  intro s t h hstep
  cases step_move hstep with
  | waits a inp hc he => exact h.begin inp
  | agent a inp hc he ha => exact (h.begin inp).agentStep ha
  | touchEdge hc => exact h.dropChoice.touchEdgeArrives
  | command w hc =>
    obtain ⟨-, he⟩ | ⟨-, he⟩ := commandOffered_cases w s.dropChoice
    · rw [he]; exact h.dropChoice.of_eq rfl rfl rfl rfl
    · rw [he]; exact h.dropChoice
  | uiPowerOff hc =>
    obtain ⟨off, env, he⟩ := uiPowerOffArrives_writes s.dropChoice
    rw [he]; exact h.dropChoice.of_eq rfl rfl rfl rfl
  | elapse ms hc => exact h.dropChoice.elapseTime ms
  | elapsedQuery hc =>
    obtain ⟨start, env, he⟩ := elapsedQueryArrives_writes s.dropChoice
    rw [he]; exact h.dropChoice.of_eq rfl rfl rfl rfl
  | powerOnReset hc => exact BusInv.powerOn _ _

end Sys2Proof.Machine
end

section
/-! What a scheduled agent runs (00_scope.md R11, 30_encoding.md R72, R81): no step stops, a word that is no item is gated or
visited like any other, and the visits of a sample are the items of its points. -/

namespace Sys2Proof.Machine

/-! ## No step stops (R81, R245) -/

/-- Every item has its effect in every state. -/
theorem exists_exec_eq_next (i : Instr) (s : State) : ∃ t, exec i s = .next t := by
  cases i <;> exact ⟨_, rfl⟩

theorem exists_tgaRead_eq_next (s : State) : ∃ t, tgaRead s = .next t := by
  obtain ⟨-, he⟩ | ⟨sf, -, he⟩ := tgaRead_cases s
  · exact ⟨_, he⟩
  · exact ⟨_, he⟩

theorem exists_tgaStep_eq_next (s : State) : ∃ t, tgaStep s = .next t := by
  unfold tgaStep
  cases s.tga.phase with
  | read => exact exists_tgaRead_eq_next s
  | _ => exact ⟨_, rfl⟩

theorem exists_advDrain_eq_next (s : State) : ∃ t, advDrain s = .next t := by
  unfold advDrain
  obtain ⟨-, hpop⟩ | ⟨w, rest, -, hpop⟩ := queueTryPop_cases s.ctlQ
  · rw [hpop]; exact ⟨_, rfl⟩
  · rw [hpop]; exact exists_exec_eq_next (decodeCc w) (s.setCtlQ rest)

theorem exists_advIssue_eq_next (s : State) : ∃ t, advIssue s = .next t := by
  unfold advIssue
  cases s.adv.issued with
  | some i => exact exists_exec_eq_next i s
  | none => exact ⟨_, rfl⟩

theorem exists_advStep_eq_next (s : State) : ∃ t, advStep s = .next t := by
  unfold advStep
  cases s.adv.phase with
  | drain => exact exists_advDrain_eq_next s
  | setAddr => exact exists_advIssue_eq_next s
  | setPwr => exact exists_advIssue_eq_next s
  | setAdv => exact exists_advIssue_eq_next s
  | start => exact exists_advIssue_eq_next s
  | stop => exact exists_advIssue_eq_next s
  | _ => exact ⟨_, rfl⟩

theorem exists_dspHandle_eq_next (w : EvWord) (s : State) : ∃ t, dspHandle w s = .next t := by
  unfold dspHandle
  cases decode (.ev w) with
  | ok i => exact exists_exec_eq_next i s
  | error err => exact ⟨_, rfl⟩

theorem exists_dspStep_eq_next (s : State) : ∃ t, dspStep s = .next t := by
  unfold dspStep
  cases s.dsp.phase with
  | drain =>
    unfold dspDrain
    obtain ⟨-, hpop⟩ | ⟨w, rest, -, hpop⟩ := queueTryPop_cases s.evbQ
    · rw [hpop]; exact ⟨_, rfl⟩
    · rw [hpop]; exact exists_dspHandle_eq_next w (s.setEvbQ rest)
  | redraw => exact ⟨_, rfl⟩
  | sleep => exact ⟨_, rfl⟩

theorem exists_agentStep_eq_next (a : Agent) (s : State) : ∃ t, agentStep a s = .next t := by
  cases a with
  | tga => exact exists_tgaStep_eq_next s
  | pid => exact ⟨_, rfl⟩
  | adv => exact exists_advStep_eq_next s
  | dsp => exact exists_dspStep_eq_next s

/-- Settles O50, by the choice that is next: an agent waits or steps, every item it runs has its effect, and an input always
has one. -/
theorem noStepEverStops : Obligations.NoStepEverStops := by
  intro s
  cases hc : s.nextChoice with
  | agent a inp =>
    rw [step_of_choice hc, move]
    obtain ⟨-, hs⟩ | ⟨-, hs⟩ := scheduleAgent_cases a inp s.dropChoice
    · rw [hs]; exact exists_agentStep_eq_next a _
    · exact ⟨_, hs⟩
  | _ => exact ⟨_, step_of_choice hc⟩

/-! ## A scheduled agent that is enabled -/

theorem step_of_enabled {s : State} {a : Agent} {inp : Inputs} (hc : s.nextChoice = .agent a inp)
    (he : (s.begin inp).enabled a = true) : step s = agentStep a (s.begin inp) := by
  rw [step_of_choice hc]
  exact if_pos he

/-- DSP in its drain handles the head of the bus (43_event_bus_dispatcher.md R204). -/
theorem step_of_dspDrain {s : State} {inp : Inputs} {w : EvWord} {rest : List EvWord} (hc : s.nextChoice = .agent .dsp inp)
    (hon : s.sysOff = false) (hp : s.dsp.phase = .drain) (hq : s.evbQ = w :: rest) :
    step s = dspHandle w ((s.begin inp).setEvbQ rest) := by
  rw [step_of_enabled hc (by simp [State.enabled, State.dspEnabled, hon, hp])]
  simp [agentStep, dspStep, dspDrain, hp, hq, queueTryPop]

/-- TGA in its read runs one iteration over the sample it gets (40_touch_arbiter.md R104). -/
theorem step_of_tgaRead {s : State} {inp : Inputs} {sf : SfWord} (hc : s.nextChoice = .agent .tga inp)
    (hon : s.sysOff = false) (hp : s.tga.phase = .read) (hr : inp.touch = .ok sf) :
    step s = tgaIteration (framePoints sf) ((s.begin inp).output (.call .touchRead .ok)) := by
  rw [step_of_enabled hc (by simp [State.enabled, State.tgaEnabled, hon, hp])]
  simp [agentStep, tgaStep, tgaRead, hp, hr]

/-! ## Words of a reserved kind -/

/-- A word that is no item meets the lock gate. -/
theorem dspHandle_of_reserved {w : EvWord} (ht : w.tag = false) (hk : w.kind = 6 ∨ w.kind = 7) (s : State) :
    dspHandle w s = .next (lockGate w s) := by
  have hd : decode (.ev w) = .error .reservedEventKind := (decodeEv_eq_error_iff w).2 ⟨ht, hk⟩
  simp only [dspHandle, hd]

/-- Settles O34: the popped word is no item, so the lock gate alone decides. -/
theorem reservedKindsPassTheGate : Obligations.ReservedKindsPassTheGate := by
  intro s inp w rest hc hon hp hq ht hk
  have hkind : w.kind = 6 ∨ w.kind = 7 := by
    change 6 ≤ w.kind.toNat at hk
    bv_omega
  rw [step_of_dspDrain hc hon hp hq, dspHandle_of_reserved ht hkind]
  refine ⟨fun hl => ?_, fun hl => ?_⟩
  · simp [lockGate, hl, State.setEvbQ]
  · simp [lockGate, hl, State.setEvbQ, State.output, State.setEnv]

/-! ## The visits of a sample -/

/-- The item of a touch point word visits the word's point. -/
theorem exec_of_decodeTp {w : TpWord} {i : Instr} (h : decode (.tp w) = .ok i) (s : State) :
    exec i s = .next (visitTouchPoint (pointOf w) s) := by
  rw [← visitWord_eq, visitWord, h]

theorem visitOrder_singleton (w : TpWord) : visitOrder [w] = [w] := by
  cases hw : inGesture w.y <;> simp [visitOrder, hw]

/-- Of two points the first is visited first unless only the second is a gesture point (92 D10). -/
theorem visitOrder_pair (v w : TpWord) :
    visitOrder [v, w] = if inGesture v.y || !inGesture w.y then [v, w] else [w, v] := by
  cases hv : inGesture v.y <;> cases hw : inGesture w.y <;> simp [visitOrder, hv, hw]

theorem framePoints_count (sf : SfWord) :
    (sf.extractLsb' 72 2 = 0#2 → framePoints sf = [])
    ∧ (sf.extractLsb' 72 2 = 1#2 → framePoints sf = [sf.extractLsb' 36 36])
    ∧ (sf.extractLsb' 72 2 = 2#2 ∨ sf.extractLsb' 72 2 = 3#2 →
        framePoints sf = [sf.extractLsb' 36 36, sf.extractLsb' 0 36]) := by
  refine ⟨fun h => ?_, fun h => ?_, fun h => ?_⟩
  · simp [framePoints, h]
  · simp [framePoints, h]
  · obtain h | h := h <;> simp [framePoints, h]

/-- Settles O8: the step is the iteration over the frame's points, and each visit of it is the item of its word. -/
theorem stepRunsTheTouchPoints : Obligations.StepRunsTheTouchPoints := by
  refine ⟨framePoints_count, fun s inp sf hc hon hp hr => ?_⟩
  have hstep := step_of_tgaRead hc hon hp hr
  refine ⟨fun w i hf hi => ?_, fun v w i j hf hi hj => ?_⟩
  · refine ⟨_, exec_of_decodeTp hi _, ?_⟩
    rw [hstep, hf, tgaIteration_eq, Tga.iterate, visitOrder_singleton]
    rfl
  · intro vFirst
    have horder : visitOrder [v, w] = if vFirst then [v, w] else [w, v] := visitOrder_pair v w
    rw [hstep, hf, tgaIteration_eq, Tga.iterate, horder]
    cases vFirst with
    | true => exact ⟨_, _, exec_of_decodeTp hi _, exec_of_decodeTp hj _, rfl⟩
    | false => exact ⟨_, _, exec_of_decodeTp hj _, exec_of_decodeTp hi _, rfl⟩

end Sys2Proof.Machine
end

section
/-! The visit of one touch point and the release of one id (40_touch_arbiter.md R102, R106 to R108, R117): an equation for
each case, then everything a visit can be, and that neither reaches the registers of the other id. -/

namespace Sys2Proof.Machine

/-! ## Key bands (R102) -/

theorem keyzone_eq (x : Coord) :
    keyzone x = if x.toNat < 107 then some .left else if x.toNat < 214 then some .center
      else if x.toNat < 320 then some .right else none := rfl

theorem keyzone_eq_none {x : Coord} (h : 320 ≤ x.toNat) : keyzone x = none := by
  rw [keyzone_eq, if_neg (by omega), if_neg (by omega), if_neg (by omega)]

/-- Below 320 there is a key, and its code is the number of the band. -/
theorem exists_keyzone_eq_some {x : Coord} (h : x.toNat < 320) :
    ∃ k, keyzone x = some k ∧ k.code = if x.toNat < 107 then 0 else if x.toNat < 214 then 1 else 2 := by
  rw [keyzone_eq, if_pos h]
  split_ifs
  · exact ⟨.left, rfl, rfl⟩
  · exact ⟨.center, rfl, rfl⟩
  · exact ⟨.right, rfl, rfl⟩

theorem lt_of_isSome_keyzone {x : Coord} (h : (keyzone x).isSome = true) : x.toNat < 320 := by
  by_contra hge
  rw [keyzone_eq_none (Nat.le_of_not_lt hge)] at h
  cases h

/-! ## The registers of one id and the pointer -/

namespace Tga

section
variable (t : Tga) (i : TouchId)

@[simp] theorem markActive_touch_same (p : Pos) : (t.markActive i p).touch i = ⟨true, p⟩ := t.setTouch_same i _
@[simp] theorem markInactive_touch_same : (t.markInactive i).touch i = ⟨false, (t.touch i).last⟩ := t.setTouch_same i _

/-- The pointer goes to the id `i`. -/
def give : Tga := { t with pointer := some i }

@[simp] theorem give_pointer : (t.give i).pointer = some i := rfl
@[simp] theorem give_outq : (t.give i).outq = t.outq := rfl
@[simp] theorem give_touch (j : TouchId) : (t.give i).touch j = t.touch j := rfl
@[simp] theorem give_active (j : TouchId) : (t.give i).active j = t.active j := rfl

theorem give_eq_self {t : Tga} {i : TouchId} (h : t.pointer = some i) : t.give i = t := by
  rw [give, ← h]

/-- A gesture point of the id `i` acts as the pointer: the id has it, or claims it. -/
def Owns : Prop := t.pointer = some i ∨ (t.pointer = none ∧ t.active i = false)

end

variable {t : Tga} {i : TouchId} {p : Point}

theorem claim_of_owns (h : t.Owns i) : t.claim i = t.give i := by
  obtain hp | hfree := h
  · rw [claim_eq_self_of_pointer hp, give_eq_self hp]
  · exact if_pos hfree

theorem claim_of_not_owns (h : ¬ t.Owns i) : t.claim i = t :=
  if_neg fun hfree => h (.inr hfree)

/-! ## One visit -/

theorem gesturePoint_of_not_owns (h : ¬ t.Owns p.id) : t.gesturePoint p = t := by
  have hother : t.pointer ≠ some p.id := fun hp => h (.inl hp)
  simp [gesturePoint, claim_of_not_owns h, hother]

theorem gesturePoint_of_repeated (h : t.Owns p.id) (hlast : (t.touch p.id).last = p.pos) :
    t.gesturePoint p = t.give p.id := by
  simp [gesturePoint, claim_of_owns h, hlast]

theorem gesturePoint_of_new (h : t.Owns p.id) (hlast : (t.touch p.id).last ≠ p.pos) :
    t.gesturePoint p =
      ((t.give p.id).emit (if t.active p.id then pointerMoved p.pos else pointerPressed p.pos)).markActive p.id p.pos := by
  simp [gesturePoint, claim_of_owns h, hlast]

theorem buttonPoint_of_ignored (h : t.pointer = some p.id ∨ t.active p.id = true ∨ keyzone p.x = none) :
    t.buttonPoint p = t := by
  obtain hv | ⟨k, hp, ha, hk, -⟩ := t.buttonPoint_cases p
  · exact hv
  · simp [hp, ha, hk] at h

theorem buttonPoint_of_new {k : Key} (hp : t.pointer ≠ some p.id) (ha : t.active p.id = false) (hk : keyzone p.x = some k) :
    t.buttonPoint p = (t.emit (keyPressed k)).markActive p.id p.pos := by
  simp [buttonPoint, hp, ha, hk]

theorem visitPoint_of_gesture (h : p.y.toNat < 240) : t.visitPoint p = t.gesturePoint p := if_pos (decide_eq_true h)

theorem visitPoint_of_button (h : 240 ≤ p.y.toNat) : t.visitPoint p = t.buttonPoint p :=
  if_neg fun hg => absurd (of_decide_eq_true hg) (Nat.not_lt.2 h)

/-- Everything the visit of a point can be. -/
inductive VisitMove (t : Tga) (p : Point) : Tga → Prop where
  | ignored : VisitMove t p t
  | repeated (ho : t.Owns p.id) : VisitMove t p (t.give p.id)
  | moved (ho : t.Owns p.id) (ha : t.active p.id = true) :
      VisitMove t p (((t.give p.id).emit (pointerMoved p.pos)).markActive p.id p.pos)
  | pressed (ho : t.Owns p.id) (ha : t.active p.id = false) :
      VisitMove t p (((t.give p.id).emit (pointerPressed p.pos)).markActive p.id p.pos)
  | key (k : Key) (hp : t.pointer ≠ some p.id) (ha : t.active p.id = false) (hk : keyzone p.x = some k) :
      VisitMove t p ((t.emit (keyPressed k)).markActive p.id p.pos)

theorem gesturePoint_move (t : Tga) (p : Point) : VisitMove t p (t.gesturePoint p) := by
  by_cases ho : t.Owns p.id
  · by_cases hlast : (t.touch p.id).last = p.pos
    · rw [gesturePoint_of_repeated ho hlast]; exact .repeated ho
    · rw [gesturePoint_of_new ho hlast]
      cases ha : t.active p.id
      · exact .pressed ho ha
      · exact .moved ho ha
  · rw [gesturePoint_of_not_owns ho]; exact .ignored

theorem visitPoint_move (t : Tga) (p : Point) : VisitMove t p (t.visitPoint p) := by
  unfold visitPoint
  split
  · exact t.gesturePoint_move p
  · obtain hv | ⟨k, hp, ha, hk, hv⟩ := t.buttonPoint_cases p
    · rw [hv]; exact .ignored
    · rw [hv]; exact .key k hp ha hk

/-! ## One release -/

/-- The events that the absence of an id causes: of the pointer, release and exit; of a key, its release. -/
def absentEvents (t : Tga) (i : TouchId) : List EvWord :=
  if t.active i = true then
    if t.pointer = some i then [pointerReleased (t.touch i).last, pointerExited]
    else (keyzone (t.touch i).last.x).toList.map keyReleased
  else []

theorem markInactive_of_inactive (h : t.active i = false) : t.markInactive i = t := by
  have hself : (⟨false, (t.touch i).last⟩ : PerTouch) = t.touch i := by rw [← h]; rfl
  rw [markInactive, hself, setTouch_self]

/-- What the release scan does for an id that the sample does not list. -/
theorem releaseIfAbsent_of_not_mem {seen : List TouchId} (h : i ∉ seen) (t : Tga) :
    t.releaseIfAbsent seen i = { t.markInactive i with
      pointer := if t.active i = true ∧ t.pointer = some i then none else t.pointer
      outq := t.outq ++ t.absentEvents i } := by
  obtain ⟨ha, -, hr⟩ | ⟨ha | hmem, hr⟩ := releaseIfAbsent_cases seen i t
  · obtain ⟨hp, he⟩ | ⟨k, hp, hk, he⟩ | ⟨hp, hk, he⟩ := t.releaseId_cases i
    · simp [hr, he, absentEvents, ha, hp, emit]
    · simp [hr, he, absentEvents, ha, hp, hk, emit]
    · simp [hr, he, absentEvents, ha, hp, hk]
      cases i <;> rfl
  · simp [hr, absentEvents, ha, markInactive_of_inactive ha]
  · exact absurd hmem h

/-! ## The other id -/

/-- From `t` to `u` nothing happens to the id `i`, and events are only added. -/
structure Keeps (i : TouchId) (t u : Tga) : Prop where
  touch : u.touch i = t.touch i
  pointer : u.pointer = some i ↔ t.pointer = some i
  outq : ∃ more, u.outq = t.outq ++ more

namespace Keeps

variable {u v : Tga}

theorem refl (i : TouchId) (t : Tga) : Keeps i t t := ⟨rfl, .rfl, [], (List.append_nil _).symm⟩

theorem trans (h : Keeps i t u) (g : Keeps i u v) : Keeps i t v := by
  obtain ⟨first, hfirst⟩ := h.outq
  obtain ⟨second, hsecond⟩ := g.outq
  exact ⟨g.touch.trans h.touch, g.pointer.trans h.pointer, first ++ second, by rw [hsecond, hfirst, List.append_assoc]⟩

theorem active (h : Keeps i t u) : u.active i = t.active i := congrArg PerTouch.active h.touch

theorem absentEvents (h : Keeps i t u) : u.absentEvents i = t.absentEvents i := by
  simp only [Tga.absentEvents, h.active, h.pointer, h.touch]

end Keeps

theorem Owns.pointer_ne {j : TouchId} (h : t.Owns j) (hne : j ≠ i) : t.pointer ≠ some i := by
  obtain hp | ⟨hp, -⟩ := h
  · rw [hp]; exact fun he => hne (Option.some.inj he)
  · rw [hp]; exact nofun

theorem keeps_give {j : TouchId} (ho : t.Owns j) (hne : j ≠ i) : Keeps i t (t.give j) :=
  ⟨rfl, iff_of_false (fun he => hne (Option.some.inj he)) (ho.pointer_ne hne), [], (List.append_nil _).symm⟩

theorem keeps_emit_markActive (t : Tga) {j : TouchId} (hne : j ≠ i) (e : EvWord) (q : Pos) :
    Keeps i t ((t.emit e).markActive j q) where
  touch := by rw [markActive, setTouch_other _ _ _ hne.symm, emit_touch]
  pointer := by rw [markActive_pointer, emit_pointer]
  outq := ⟨[e], by rw [markActive_outq, emit_outq]⟩

/-- The visit of a point of one id does nothing to the other. -/
theorem VisitMove.keeps {u : Tga} (h : VisitMove t p u) (hne : p.id ≠ i) : Keeps i t u := by
  cases h with
  | ignored => exact .refl i t
  | repeated ho => exact keeps_give ho hne
  | moved ho ha => exact (keeps_give ho hne).trans (keeps_emit_markActive _ hne _ _)
  | pressed ho ha => exact (keeps_give ho hne).trans (keeps_emit_markActive _ hne _ _)
  | key k hp ha hk => exact keeps_emit_markActive _ hne _ _

theorem keeps_visitAll (t : Tga) {ws : List TpWord} (habs : ∀ w ∈ ws, w.id ≠ i) : Keeps i t (t.visitAll ws) := by
  induction ws generalizing t with
  | nil => exact .refl i t
  | cons w ws ih =>
    obtain ⟨hw, hws⟩ := List.forall_mem_cons.1 habs
    exact ((t.visitPoint_move (pointOf w)).keeps hw).trans (ih _ hws)

/-- The release scan for one id does nothing to the other. -/
theorem keeps_releaseIfAbsent (t : Tga) (seen : List TouchId) {j : TouchId} (hne : j ≠ i) :
    Keeps i t (t.releaseIfAbsent seen j) := by
  by_cases hmem : j ∈ seen
  · rw [releaseIfAbsent_of_mem hmem]; exact .refl i t
  · rw [releaseIfAbsent_of_not_mem hmem]
    refine ⟨setTouch_other _ _ _ hne.symm, ?_, _, rfl⟩
    split
    next h =>
      obtain ⟨-, hp⟩ := h
      exact iff_of_false nofun (by rw [hp]; exact fun he => hne (Option.some.inj he))
    next => exact .rfl

end Tga

/-! ## The three touch items -/

/-- Each of the three touch items visits its point (R117). -/
theorem exec_of_mem_touch {z : BitVec 1} {id : TouchId} {x y : Coord} {i : Instr}
    (h : i ∈ [Instr.tpPressed z id x y, Instr.tpReleased z id x y, Instr.tpMoved z id x y]) (s : State) :
    exec i s = .next (s.setTga (s.tga.visitPoint ⟨id, x, y⟩)) := by
  obtain ⟨hpressed, hreleased, hmoved⟩ := exec_touch z id x y s
  simp only [List.mem_cons, List.not_mem_nil, or_false] at h
  obtain rfl | rfl | rfl := h
  · exact hpressed
  · exact hreleased
  · exact hmoved

/-- Settles O10: the item is the visit of a gesture point, in its three cases. -/
theorem gesturePointMeaning : Obligations.GesturePointMeaning := by
  intro s z id x y i hi hy owns
  rw [exec_of_mem_touch hi, Tga.visitPoint_of_gesture (p := ⟨id, x, y⟩) hy]
  refine ⟨fun hno => ?_, fun ho hlast => ?_, fun ho hlast => ?_⟩
  · rw [Tga.gesturePoint_of_not_owns (t := s.tga) (p := ⟨id, x, y⟩) hno, State.setTga_self]
  · rw [Tga.gesturePoint_of_repeated (t := s.tga) (p := ⟨id, x, y⟩) ho hlast]; rfl
  · rw [Tga.gesturePoint_of_new (t := s.tga) (p := ⟨id, x, y⟩) ho hlast]
    cases s.tga.active id <;> rfl

/-- Settles O11: the item is the visit of a button point, ignored or the key of its band. -/
theorem buttonPointMeaning : Obligations.ButtonPointMeaning := by
  intro s z id x y i hi hy
  rw [exec_of_mem_touch hi, Tga.visitPoint_of_button (p := ⟨id, x, y⟩) hy]
  refine ⟨fun hno => ?_, fun hp ha hx => ?_⟩
  · rw [Tga.buttonPoint_of_ignored (hno.imp_right (Or.imp_right keyzone_eq_none)), State.setTga_self]
  · obtain ⟨k, hk, hcode⟩ := exists_keyzone_eq_some hx
    rw [Tga.buttonPoint_of_new hp ha hk]
    dsimp only
    rw [← hcode]
    rfl

end Sys2Proof.Machine
end

section
/-! No contact is announced outside a session, and each announced key is known (40_touch_arbiter.md R108, R109, R113, R114):
one id's key through the visits and the release scan, then one lemma for TGA's moves. -/

namespace Sys2Proof.Machine

namespace Tga

variable {t u : Tga} {i : TouchId} {p : Point}

/-! ## The key of one id -/

/-- If the id `i` is an announced key, its recorded position has one. -/
def KeyKnown (t : Tga) (i : TouchId) : Prop :=
  t.active i = true → t.pointer ≠ some i → (keyzone (t.touch i).last.x).isSome = true

namespace KeyKnown

theorem of_keeps (h : t.KeyKnown i) (hk : Keeps i t u) : u.KeyKnown i := by
  intro ha hp
  rw [hk.touch]
  exact h (hk.active ▸ ha) (fun he => hp (hk.pointer.2 he))

theorem of_pointer (h : t.pointer = some i) : t.KeyKnown i := fun _ hp => absurd h hp

theorem of_inactive (h : t.active i = false) : t.KeyKnown i := fun ha => absurd (h.symm.trans ha) nofun

/-- A visit announces a key only in a band (R107). -/
theorem visitMove (h : t.KeyKnown i) (hv : VisitMove t p u) : u.KeyKnown i := by
  by_cases hne : p.id = i
  · subst hne
    cases hv with
    | ignored => exact h
    | repeated ho => exact of_pointer rfl
    | moved ho ha => exact of_pointer (by simp)
    | pressed ho ha => exact of_pointer (by simp)
    | key k hp ha hk => intro _ _; simp [Point.pos, hk]
  · exact h.of_keeps (hv.keeps hne)

theorem visitAll (h : t.KeyKnown i) (ws : List TpWord) : (t.visitAll ws).KeyKnown i := by
  induction ws generalizing t with
  | nil => exact h
  | cons w ws ih => exact ih (h.visitMove (t.visitPoint_move (pointOf w)))

end KeyKnown

/-! ## The release scan -/

/-- The release scan leaves an id as it is if the sample lists it, and inactive if not. -/
theorem releaseIfAbsent_active (seen : List TouchId) (i : TouchId) (t : Tga) :
    (t.releaseIfAbsent seen i).active i = (t.active i && seen.contains i) := by
  by_cases hmem : i ∈ seen
  · simp [releaseIfAbsent_of_mem hmem, hmem]
  · rw [releaseIfAbsent_of_not_mem hmem]
    have hoff : (t.markInactive i).active i = false := congrArg PerTouch.active (t.markInactive_touch_same i)
    exact hoff.trans (by simp [hmem])

theorem KeyKnown.releaseIfAbsent (h : t.KeyKnown i) (seen : List TouchId) (j : TouchId) :
    (t.releaseIfAbsent seen j).KeyKnown i := by
  by_cases hne : j = i
  · subst hne
    by_cases hmem : j ∈ seen
    · rw [releaseIfAbsent_of_mem hmem]; exact h
    · exact .of_inactive (by simp [releaseIfAbsent_active, hmem])
  · exact h.of_keeps (t.keeps_releaseIfAbsent seen hne)

/-- After the scan an id is active exactly if it was and the sample lists it. -/
theorem releaseScan_active (seen : List TouchId) (i : TouchId) (t : Tga) :
    (t.releaseScan seen).active i = (t.active i && seen.contains i) := by
  cases i with
  | id0 =>
    rw [releaseScan, (keeps_releaseIfAbsent (i := .id0) (j := .id1) _ seen nofun).active, releaseIfAbsent_active]
  | id1 =>
    rw [releaseScan, releaseIfAbsent_active, (keeps_releaseIfAbsent (i := .id1) (j := .id0) t seen nofun).active]

theorem KeyKnown.iterate (h : t.KeyKnown i) (l : List TpWord) : (t.iterate l).KeyKnown i :=
  ((h.visitAll (visitOrder l)).releaseIfAbsent (seenIds l) .id0).releaseIfAbsent (seenIds l) .id1

theorem iterate_active (t : Tga) (l : List TpWord) (i : TouchId) :
    (t.iterate l).active i = ((t.visitAll (visitOrder l)).active i && (seenIds l).contains i) :=
  releaseScan_active (seenIds l) i _

/-- An empty sample leaves no contact announced. -/
theorem noneActive_iterate_nil (t : Tga) : NoneActive (t.iterate []) := by
  constructor <;> simp [iterate_active, seenIds]

end Tga

/-! ## The invariant -/

namespace TouchInv

variable {t u : Tga} {s s' : State}

/-- Nothing but the out-queue, the latched edge and the timer differs: the invariant stays. -/
theorem of_eq (h : TouchInv t) (h0 : u.touch0 = t.touch0) (h1 : u.touch1 = t.touch1) (hp : u.pointer = t.pointer)
    (he : u.empty = t.empty) (hph : u.phase = t.phase) : TouchInv u := by
  have htouch : ∀ i, u.touch i = t.touch i := fun i => by cases i <;> assumption
  have hactive : ∀ i, u.active i = t.active i := fun i => congrArg PerTouch.active (htouch i)
  refine ⟨fun hw => ?_, fun hem hq => ?_, fun i ha hne => ?_⟩
  · simpa [NoneActive, hactive] using h.waitIdle (hph ▸ hw)
  · simpa [NoneActive, hactive] using h.emptyIdle (he ▸ hem) (hph ▸ hq)
  · rw [htouch]; exact h.keyKnown i (hactive i ▸ ha) (hp ▸ hne)

theorem iterate (h : TouchInv t) (l : List TpWord) : TouchInv (t.iterate l) where
  waitIdle hw := nomatch hw
  emptyIdle he _ := by
    obtain rfl : l = [] := List.isEmpty_iff.1 he
    exact t.noneActive_iterate_nil
  keyKnown i := Tga.KeyKnown.iterate (h.keyKnown i) l

theorem tgaMove (h : TouchInv s.tga) (hm : TgaMove s s') : TouchInv s'.tga := by
  cases hm with
  | sessionStart hp => exact ⟨nofun, fun _ hph => by simp [tgaSessionStart] at hph, fun i ha => by cases i <;> cases ha⟩
  | readFails hp hr => exact ⟨nofun, fun _ hph => (hph.elim nofun nofun), h.keyKnown⟩
  | iteration sf hp hr => exact h.iterate (framePoints sf)
  | allSent hp hq => exact ⟨nofun, fun he _ => h.emptyIdle he (.inl hp), h.keyKnown⟩
  | send e rest hp hq => exact h.of_eq rfl rfl rfl rfl rfl
  | wake hp =>
    cases he : s.tga.empty
    · simp only [tgaWake, he]
      exact ⟨nofun, fun _ hph => (hph.elim nofun nofun), h.keyKnown⟩
    · simp only [tgaWake, he]
      exact ⟨fun _ => h.emptyIdle he (.inr hp), fun _ hph => (hph.elim nofun nofun), h.keyKnown⟩
  | halted hp => exact h

theorem agentStep {a : Agent} (h : TouchInv s.tga) (ha : agentStep a s = .next s') : TouchInv s'.tga := by
  cases a with
  | tga => exact h.tgaMove (tgaStep_move ha)
  | pid =>
    cases ha
    obtain ⟨pid, q, env, he⟩ := (pidStep_move s).writes
    rwa [he]
  | adv => obtain ⟨adv, q, env, rfl, -⟩ := (advStep_move ha).writes; exact h
  | dsp => obtain ⟨dsp, q, off, env, rfl, -⟩ := (dspStep_move ha).writes; exact h

theorem touchEdgeArrives (h : TouchInv s.tga) : TouchInv (touchEdgeArrives s).tga := by
  unfold Machine.touchEdgeArrives Tga.latchEdge
  split_ifs
  · exact h
  · exact h.of_eq rfl rfl rfl rfl rfl
  · exact h

theorem elapseTime (h : TouchInv s.tga) (ms : Nat) : TouchInv (elapseTime ms s).tga := by
  rw [elapseTime_eq]
  split
  · exact h
  · exact h.of_eq rfl rfl rfl rfl rfl

end TouchInv

/-- Settles O53, by the moves a step can be: an iteration records a key only in a band and leaves none announced after an
empty sample, a session starts with none, and nothing but TGA reaches its per-touch registers. -/
theorem stepKeepsTouchInv : Obligations.StepKeepsTouchInv := by
  intro s t h hstep
  have hdrop : TouchInv s.dropChoice.tga := by rwa [State.dropChoice_tga]
  cases step_move hstep with
  | waits a inp hc he => rwa [State.begin_tga]
  | agent a inp hc he ha => exact TouchInv.agentStep (by rwa [State.begin_tga]) ha
  | touchEdge hc => exact hdrop.touchEdgeArrives
  | command w hc => obtain ⟨-, he⟩ | ⟨-, he⟩ := commandOffered_cases w s.dropChoice <;> rw [he] <;> exact hdrop
  | uiPowerOff hc => obtain ⟨off, env, he⟩ := uiPowerOffArrives_writes s.dropChoice; rw [he]; exact hdrop
  | elapse ms hc => exact hdrop.elapseTime ms
  | elapsedQuery hc => obtain ⟨start, env, he⟩ := elapsedQueryArrives_writes s.dropChoice; rw [he]; exact hdrop
  | powerOnReset hc => exact TouchInv.reset

end Sys2Proof.Machine
end

section
/-! One iteration on the contacts (40_touch_arbiter.md R105, R108, R111, R113, R115, R118): what it does to a contact that the
sample lists, to one that it does not list, and that it reads only the points. -/

namespace Sys2Proof.Machine

namespace Tga

variable {t u : Tga} {i : TouchId} {p : Point}

/-! ## A listed contact keeps its role (R118) -/

/-- The id `i` is announced in `u`, and is the pointer there exactly if it was in `t`. -/
structure SameRole (i : TouchId) (t u : Tga) : Prop where
  active : u.active i = true
  pointer : u.pointer = some i ↔ t.pointer = some i

theorem Keeps.sameRole (h : Keeps i t u) (ha : t.active i = true) : SameRole i t u := ⟨h.active.trans ha, h.pointer⟩

theorem SameRole.trans {v : Tga} (h : SameRole i t u) (g : SameRole i u v) : SameRole i t v :=
  ⟨g.active, g.pointer.trans h.pointer⟩

theorem Owns.pointer_of_active (h : t.Owns i) (ha : t.active i = true) : t.pointer = some i := by
  obtain hp | ⟨-, hoff⟩ := h
  · exact hp
  · exact absurd (hoff.symm.trans ha) nofun

/-- The visit of an announced id, in whatever zone, leaves it in its role: the owner may move, a key does nothing. -/
theorem VisitMove.sameRole (h : VisitMove t p u) (ha : t.active i = true) : SameRole i t u := by
  by_cases hne : p.id = i
  · subst hne
    cases h with
    | ignored => exact ⟨ha, .rfl⟩
    | repeated ho => exact ⟨ha, iff_of_true rfl (ho.pointer_of_active ha)⟩
    | moved ho _ => exact ⟨by simp [Tga.active], iff_of_true (by simp) (ho.pointer_of_active ha)⟩
    | pressed ho hoff => exact absurd (hoff.symm.trans ha) nofun
    | key k hp hoff hk => exact absurd (hoff.symm.trans ha) nofun
  · exact (h.keeps hne).sameRole ha

theorem visitAll_sameRole (ha : t.active i = true) (ws : List TpWord) : SameRole i t (t.visitAll ws) := by
  induction ws generalizing t with
  | nil => exact ⟨ha, .rfl⟩
  | cons w ws ih =>
    have hfirst := (t.visitPoint_move (pointOf w)).sameRole ha
    exact hfirst.trans (ih hfirst.active)

theorem keeps_releaseIfAbsent_of_mem {seen : List TouchId} (h : i ∈ seen) (t : Tga) (j : TouchId) :
    Keeps i t (t.releaseIfAbsent seen j) := by
  by_cases hne : j = i
  · subst hne; rw [releaseIfAbsent_of_mem h]; exact .refl j t
  · exact t.keeps_releaseIfAbsent seen hne

theorem keeps_releaseScan_of_mem {seen : List TouchId} (h : i ∈ seen) (t : Tga) : Keeps i t (t.releaseScan seen) :=
  (keeps_releaseIfAbsent_of_mem h t .id0).trans (keeps_releaseIfAbsent_of_mem h _ .id1)

/-- An iteration leaves an announced id that the sample lists in its role. -/
theorem iterate_sameRole {l : List TpWord} (ha : t.active i = true) (hl : i ∈ seenIds l) : SameRole i t (t.iterate l) := by
  have hvisits := visitAll_sameRole ha (visitOrder l)
  have hscan := hvisits.trans ((keeps_releaseScan_of_mem hl _).sameRole hvisits.active)
  exact ⟨hscan.active, hscan.pointer⟩

/-! ## A contact that is not listed (R108) -/

theorem releaseIfAbsent_pointer_none (h : t.pointer = none) (seen : List TouchId) (j : TouchId) :
    (t.releaseIfAbsent seen j).pointer = none := by
  by_cases hmem : j ∈ seen
  · rwa [releaseIfAbsent_of_mem hmem]
  · rw [releaseIfAbsent_of_not_mem hmem]
    simp [h]

/-- What the release scan does to an announced id that the sample does not list, between what it may do to the other. -/
structure Released (i : TouchId) (t u : Tga) : Prop where
  touch : u.touch i = ⟨false, (t.touch i).last⟩
  pointer : t.pointer = some i → u.pointer = none
  outq : ∃ before after, u.outq = t.outq ++ before ++ t.absentEvents i ++ after

theorem Released.of_keeps_left {v : Tga} (hk : Keeps i t u) (h : Released i u v) : Released i t v := by
  obtain ⟨more, hmore⟩ := hk.outq
  obtain ⟨before, after, hq⟩ := h.outq
  refine ⟨by rw [h.touch, hk.touch], fun hp => h.pointer (hk.pointer.2 hp), more ++ before, after, ?_⟩
  rw [hq, hmore, hk.absentEvents]
  simp only [List.append_assoc]

theorem released_releaseIfAbsent {seen : List TouchId} (ha : t.active i = true) (h : i ∉ seen) :
    Released i t (t.releaseIfAbsent seen i) := by
  rw [releaseIfAbsent_of_not_mem h]
  exact ⟨t.markInactive_touch_same i, fun hp => if_pos ⟨ha, hp⟩, [], [], by simp⟩

/-- The scan of the other id after the release. -/
theorem Released.releaseIfAbsent (h : Released i t u) (seen : List TouchId) {j : TouchId} (hne : j ≠ i) :
    Released i t (u.releaseIfAbsent seen j) := by
  have hk := u.keeps_releaseIfAbsent seen hne
  obtain ⟨more, hmore⟩ := hk.outq
  obtain ⟨before, after, hq⟩ := h.outq
  refine ⟨hk.touch.trans h.touch, fun hp => releaseIfAbsent_pointer_none (h.pointer hp) seen j, before, after ++ more, ?_⟩
  rw [hmore, hq]
  simp only [List.append_assoc]

theorem released_releaseScan {seen : List TouchId} (ha : t.active i = true) (h : i ∉ seen) :
    Released i t (t.releaseScan seen) := by
  cases i with
  | id0 => exact (released_releaseIfAbsent ha h).releaseIfAbsent seen nofun
  | id1 =>
    have hk : Keeps .id1 t (t.releaseIfAbsent seen .id0) := t.keeps_releaseIfAbsent seen nofun
    exact (released_releaseIfAbsent (hk.active.trans ha) h).of_keeps_left hk

/-- An iteration releases an announced id that the sample does not list. -/
theorem released_iterate {l : List TpWord} (ha : t.active i = true) (hl : ∀ w ∈ l, w.id ≠ i) :
    Released i t (t.iterate l) := by
  have hk : Keeps i t (t.visitAll (visitOrder l)) := t.keeps_visitAll fun w hw => hl w (mem_visitOrder.1 hw)
  have hseen : i ∉ seenIds l := fun hi => by
    obtain ⟨w, hw, he⟩ := mem_seenIds.1 hi
    exact hl w hw he
  have hscan := (released_releaseScan (hk.active.trans ha) hseen).of_keeps_left hk
  exact ⟨hscan.touch, hscan.pointer, hscan.outq⟩

theorem absentEvents_of_inactive (ha : t.active i = false) : t.absentEvents i = [] := by
  simp [absentEvents, ha]

theorem absentEvents_of_pointer (ha : t.active i = true) (hp : t.pointer = some i) :
    t.absentEvents i = [pointerReleased (t.touch i).last, pointerExited] := by
  simp [absentEvents, ha, hp]

theorem absentEvents_of_key {k : Key} (ha : t.active i = true) (hp : t.pointer ≠ some i)
    (hk : keyzone (t.touch i).last.x = some k) : t.absentEvents i = [keyReleased k] := by
  simp [absentEvents, ha, hp, hk]

/-- An announced key without a band, in no state a run reaches, is released without an event (log entry 11). -/
theorem absentEvents_of_noKey (hp : t.pointer ≠ some i) (hk : keyzone (t.touch i).last.x = none) :
    t.absentEvents i = [] := by
  simp [absentEvents, hp, hk]

/-- The empty sample's scan, as one update: each absent id inactive, its events at the tail, id 0 first. -/
theorem releaseScan_nil (t : Tga) :
    t.releaseScan [] = { t with
      touch0 := { t.touch0 with active := false }
      touch1 := { t.touch1 with active := false }
      pointer :=
        match t.pointer with
        | some i => if t.active i then none else some i
        | none => none
      outq := t.outq ++ t.absentEvents .id0 ++ t.absentEvents .id1 } := by
  have hk : Keeps .id1 t (t.releaseIfAbsent [] .id0) := t.keeps_releaseIfAbsent [] nofun
  rw [releaseScan, releaseIfAbsent_of_not_mem (i := .id1) List.not_mem_nil, hk.absentEvents, hk.active,
    releaseIfAbsent_of_not_mem (i := .id0) List.not_mem_nil]
  obtain ⟨phase, touch0, touch1, pointer, empty, outq, irqPend, timer⟩ := t
  obtain _ | _ | _ := pointer <;> simp [markInactive, setTouch, touch, Tga.active] <;> rfl

/-! ## What an iteration reads (R111) -/

theorem visitAll_eq_foldl (t : Tga) (ws : List TpWord) : t.visitAll ws = (ws.map pointOf).foldl visitPoint t := by
  rw [List.foldl_map]; rfl

theorem map_pointOf_visitOrder (l : List TpWord) :
    (visitOrder l).map pointOf = ((l.map pointOf).filter fun p => inGesture p.y)
      ++ (l.map pointOf).filter fun p => !inGesture p.y := by
  simp only [visitOrder, List.map_append, List.filter_map]
  rfl

theorem seenIds_eq_map (l : List TpWord) : seenIds l = (l.map pointOf).map Point.id := by
  simp [seenIds, pointOf]

/-- An iteration over words with the same points is the same. -/
theorem iterate_congr {l m : List TpWord} (h : l.map pointOf = m.map pointOf) (t : Tga) : t.iterate l = t.iterate m := by
  have hempty : l.isEmpty = m.isEmpty := by rw [← List.isEmpty_map (f := pointOf), h, List.isEmpty_map]
  simp only [iterate, visitAll_eq_foldl, map_pointOf_visitOrder, seenIds_eq_map, h, hempty]

/-! ## A repeated observation (R115) -/

/-- The owner at its recorded position or in the button zone, and a key anywhere, cause nothing. -/
theorem visitPoint_eq_self (ha : t.active p.id = true)
    (h : t.pointer = some p.id → (t.touch p.id).last = p.pos ∨ 240 ≤ p.y.toNat) : t.visitPoint p = t := by
  by_cases hy : p.y.toNat < 240
  · rw [visitPoint_of_gesture hy]
    by_cases ho : t.Owns p.id
    · have hp := ho.pointer_of_active ha
      have hlast := (h hp).resolve_right (Nat.not_le.2 hy)
      rw [gesturePoint_of_repeated ho hlast, give_eq_self hp]
    · exact gesturePoint_of_not_owns ho
  · rw [visitPoint_of_button (Nat.le_of_not_lt hy)]
    exact buttonPoint_of_ignored (.inr (.inl ha))

theorem releaseIfAbsent_eq_self {seen : List TouchId} (h : i ∉ seen → t.active i = false) : t.releaseIfAbsent seen i = t := by
  obtain ⟨ha, hmem, -⟩ | ⟨-, hr⟩ := releaseIfAbsent_cases seen i t
  · exact absurd ((h hmem).symm.trans ha) nofun
  · exact hr

theorem releaseScan_eq_self {seen : List TouchId} (h : ∀ i, i ∉ seen → t.active i = false) : t.releaseScan seen = t := by
  rw [releaseScan, releaseIfAbsent_eq_self (h .id0), releaseIfAbsent_eq_self (h .id1)]

end Tga

/-! ## The read step -/

/-- TGA in its read runs one iteration, and nothing else of the machine changes. -/
theorem step_of_tgaRead_iterate {s : State} {inp : Inputs} {sf : SfWord} (hc : s.nextChoice = .agent .tga inp)
    (hon : s.sysOff = false) (hp : s.tga.phase = .read) (hr : inp.touch = .ok sf) :
    step s = .next { (s.begin inp).output (.call .touchRead .ok) with tga := s.tga.iterate (framePoints sf) } := by
  rw [step_of_tgaRead hc hon hp hr, tgaIteration_eq, State.output_tga, State.begin_tga]
  rfl

theorem tga_of_tgaRead {s t : State} {inp : Inputs} {sf : SfWord} (hc : s.nextChoice = .agent .tga inp)
    (hon : s.sysOff = false) (hp : s.tga.phase = .read) (hr : inp.touch = .ok sf) (h : step s = .next t) :
    t.tga = s.tga.iterate (framePoints sf) := by
  cases (step_of_tgaRead_iterate hc hon hp hr) ▸ h
  rfl

/-- Settles O13: the iteration over no points is the scan, with every id absent. -/
theorem emptySampleReleasesAll : Obligations.EmptySampleReleasesAll := by
  intro s inp sf hc hon hp hr hcount released
  have hreleased : ∀ i, released i = s.tga.absentEvents i := by
    intro i
    cases ha : s.tga.active i
    · simp [released, ha, Tga.absentEvents_of_inactive ha]
    · by_cases hptr : s.tga.pointer = some i
      · rw [Tga.absentEvents_of_pointer ha hptr]; simp only [released, ha, hptr]; rfl
      · by_cases hx : (s.tga.touch i).last.x.toNat < 320
        · obtain ⟨k, hk, hcode⟩ := exists_keyzone_eq_some hx
          rw [Tga.absentEvents_of_key ha hptr hk]; simp only [released, ha, hptr, hx, ← hcode]; rfl
        · rw [Tga.absentEvents_of_noKey hptr (keyzone_eq_none (Nat.le_of_not_lt hx))]; simp [released, hptr, hx]
  have hnil : framePoints sf = [] := (framePoints_count sf).1 hcount
  rw [step_of_tgaRead_iterate hc hon hp hr, hnil, Tga.iterate, hreleased, hreleased]
  simp only [visitOrder, List.filter_nil, List.append_nil, Tga.visitAll_nil, seenIds, List.map_nil, Tga.releaseScan_nil]
  rfl

/-- Settles O14: the visits do nothing to an id that no point lists, and the scan releases it. -/
theorem absentContactIsReleased : Obligations.AbsentContactIsReleased := by
  intro s t inp sf i hc hon hp hr ha habs hinv hstep pos key
  rw [tga_of_tgaRead hc hon hp hr hstep]
  obtain ⟨htouch, hptr, before, after, hq⟩ := Tga.released_iterate ha habs
  refine ⟨by rw [Tga.active, htouch], by rw [htouch], fun howner => ⟨hptr howner, before, after, ?_⟩, fun hkey => ?_⟩
  · rw [hq, Tga.absentEvents_of_pointer ha howner]
    rfl
  · have hx := lt_of_isSome_keyzone (hinv.keyKnown i ha hkey)
    obtain ⟨k, hk, hcode⟩ := exists_keyzone_eq_some hx
    have hword : key = k.code := hcode.symm
    refine ⟨hx, before, after, ?_⟩
    rw [hq, Tga.absentEvents_of_key ha hkey hk, hword]
    rfl

/-- Settles O15: no visit and no release changes the role of an announced id that the sample lists. -/
theorem roleIsLatched : Obligations.RoleIsLatched := by
  intro s t inp sf i hc hon hp hr ha hlisted hstep
  rw [tga_of_tgaRead hc hon hp hr hstep]
  have hrole := Tga.iterate_sameRole ha (mem_seenIds.2 hlisted)
  exact ⟨hrole.active, hrole.pointer⟩

/-- Settles O17: the one visit does nothing, and no other id is there to release. -/
theorem repeatedObservationIsSuppressed : Obligations.RepeatedObservationIsSuppressed := by
  intro s inp sf w hc hon hp hr hf ha hother hrep
  have hvisit : s.tga.visitPoint (pointOf w) = s.tga := Tga.visitPoint_eq_self ha hrep
  have hscan : s.tga.releaseScan (seenIds [w]) = s.tga :=
    Tga.releaseScan_eq_self fun j hj => hother j (by simpa [seenIds] using hj)
  rw [step_of_tgaRead_iterate hc hon hp hr, hf, Tga.iterate, visitOrder_singleton, Tga.visitAll_cons, Tga.visitAll_nil, hvisit,
    hscan]
  rfl

/-- Settles O18: the bound of one iteration, for the at most two points of a frame. -/
theorem iterationEmitsAtMostThree : Obligations.IterationEmitsAtMostThree := by
  intro s t inp sf hc hon hp hr hstep
  rw [tga_of_tgaRead hc hon hp hr hstep]
  exact s.tga.iterate_outq_le (framePoints_length_le sf)

/-- Settles O19: both steps are iterations over the same points from the same registers. -/
theorem iterationReadsOnlyPointsAndTga : Obligations.IterationReadsOnlyPointsAndTga := by
  intro s1 s2 t1 t2 inp1 inp2 sf1 sf2 hc1 hc2 hon1 hon2 htga hp hr1 hr2 hpoints hstep1 hstep2
  have hsame : (framePoints sf1).map pointOf = (framePoints sf2).map pointOf := by
    have h := congrArg (List.map fun (id, x, y) => Point.mk id x y) hpoints
    rwa [List.map_map, List.map_map] at h
  rw [tga_of_tgaRead hc1 hon1 hp hr1 hstep1, tga_of_tgaRead hc2 hon2 (htga ▸ hp) hr2 hstep2, htga]
  exact Tga.iterate_congr hsame s2.tga

end Sys2Proof.Machine
end

section
/-! The pairing law of one iteration (40_touch_arbiter.md R114): each press announces one contact and each release ends one,
so the presses and the releases of an iteration balance with the contacts announced. -/

namespace Sys2Proof.Machine

/-! ## Counting events and contacts -/

@[simp] theorem countKind_nil (k : BitVec 3) : countKind k [] = 0 := rfl

theorem countKind_append (k : BitVec 3) (l m : List EvWord) : countKind k (l ++ m) = countKind k l + countKind k m :=
  List.countP_append

theorem countKind_cons_encodeWindow (k kind : BitVec 3) (f : WindowFields) (l : List EvWord) :
    countKind k (encodeWindow kind f :: l) = countKind k l + if kind = k then 1 else 0 := by
  simp [countKind, List.countP_cons]

theorem activeCount_setTouch (t : Tga) (i : TouchId) (v : PerTouch) :
    activeCount (t.setTouch i v) + (t.active i).toNat = activeCount t + v.active.toNat := by
  cases i <;> simp only [activeCount, Tga.active, Tga.touch, Tga.setTouch] <;> omega

@[simp] theorem activeCount_emit (t : Tga) (e : EvWord) : activeCount (t.emit e) = activeCount t := rfl

/-- An id that is announced counts once more than before. -/
theorem activeCount_markActive_of_inactive {t : Tga} {i : TouchId} (ha : t.active i = false) (p : Pos) :
    activeCount (t.markActive i p) = activeCount t + 1 := by
  simpa [ha, Tga.markActive] using activeCount_setTouch t i ⟨true, p⟩

theorem activeCount_markActive_of_active {t : Tga} {i : TouchId} (ha : t.active i = true) (p : Pos) :
    activeCount (t.markActive i p) = activeCount t := by
  simpa [ha, Tga.markActive] using activeCount_setTouch t i ⟨true, p⟩

theorem activeCount_markInactive {t : Tga} {i : TouchId} (ha : t.active i = true) :
    activeCount (t.markInactive i) + 1 = activeCount t := by
  simpa [ha, Tga.markInactive] using activeCount_setTouch t i ⟨false, (t.touch i).last⟩

namespace Tga

variable {t u v : Tga} {i : TouchId} {p : Point}

/-- From `t` to `u` the presses and the contacts announced before balance the releases and the contacts announced after, and
each pointer release has its exit. -/
def Balanced (t u : Tga) : Prop :=
  ∃ events, u.outq = t.outq ++ events
    ∧ countKind 0 events + countKind 4 events + activeCount t
        = countKind 2 events + countKind 5 events + activeCount u
    ∧ countKind 2 events = countKind 3 events

namespace Balanced

theorem of_silent (hq : u.outq = t.outq) (ha : activeCount u = activeCount t) : Balanced t u :=
  ⟨[], by simp [hq], by simp [ha], rfl⟩

theorem refl (t : Tga) : Balanced t t := of_silent rfl rfl

theorem trans (h : Balanced t u) (g : Balanced u v) : Balanced t v := by
  obtain ⟨first, hq1, hb1, he1⟩ := h
  obtain ⟨second, hq2, hb2, he2⟩ := g
  refine ⟨first ++ second, by rw [hq2, hq1, List.append_assoc], ?_, ?_⟩
  · simp only [countKind_append]; omega
  · simp only [countKind_append]; omega

/-- A press announces its contact. -/
theorem emit_markActive_of_press {kind : BitVec 3} (hkind : kind = 0 ∨ kind = 4) (ha : t.active i = false)
    (f : WindowFields) (q : Pos) : Balanced t ((t.emit (encodeWindow kind f)).markActive i q) := by
  have hcount := activeCount_markActive_of_inactive (t := t.emit (encodeWindow kind f)) (by rwa [emit_active]) q
  rw [activeCount_emit] at hcount
  refine ⟨[encodeWindow kind f], by simp, ?_, ?_⟩
  · rw [hcount]
    obtain rfl | rfl := hkind <;> simp [countKind_cons_encodeWindow] <;> omega
  · obtain rfl | rfl := hkind <;> simp [countKind_cons_encodeWindow]

/-- A move announces no contact. -/
theorem emit_markActive_of_move (ha : t.active i = true) (f : WindowFields) (q : Pos) :
    Balanced t ((t.emit (encodeWindow 1 f)).markActive i q) := by
  have hcount := activeCount_markActive_of_active (t := t.emit (encodeWindow 1 f)) (by rwa [emit_active]) q
  rw [activeCount_emit] at hcount
  refine ⟨[encodeWindow 1 f], by simp, ?_, ?_⟩
  · rw [hcount]; simp [countKind_cons_encodeWindow]
  · simp [countKind_cons_encodeWindow]

theorem give (t : Tga) (i : TouchId) : Balanced t (t.give i) := of_silent rfl rfl

theorem visitMove (h : VisitMove t p u) : Balanced t u := by
  cases h with
  | ignored => exact refl t
  | repeated ho => exact give t p.id
  | moved ho ha => exact (give t p.id).trans (emit_markActive_of_move (t := t.give p.id) ha _ _)
  | pressed ho ha => exact (give t p.id).trans (emit_markActive_of_press (t := t.give p.id) (.inl rfl) ha _ _)
  | key k hp ha hk => exact emit_markActive_of_press (.inr rfl) ha _ _

theorem visitAll (t : Tga) (ws : List TpWord) : Balanced t (t.visitAll ws) := by
  induction ws generalizing t with
  | nil => exact refl t
  | cons w ws ih => exact (visitMove (t.visitPoint_move (pointOf w))).trans (ih _)

/-- The release of an announced contact, of the pointer with its exit or of a key that is known, ends one. -/
theorem releaseId (ha : t.active i = true) (hk : t.KeyKnown i) : Balanced t (t.releaseId i) := by
  have hone := activeCount_markInactive ha
  obtain ⟨hp, hr⟩ | ⟨k, hp, -, hr⟩ | ⟨hp, hnone, -⟩ := t.releaseId_cases i
  · have hcount : activeCount (t.releaseId i) = activeCount (t.markInactive i) := by rw [hr]; rfl
    refine ⟨[pointerReleased (t.touch i).last, pointerExited], by simp [hr], ?_, ?_⟩
    · simp [hcount, ← hone, pointerReleased, pointerExited, countKind_cons_encodeWindow]; omega
    · simp [pointerReleased, pointerExited, countKind_cons_encodeWindow]
  · refine ⟨[keyReleased k], by simp [hr], ?_, ?_⟩
    · simp [hr, ← hone, keyReleased, countKind_cons_encodeWindow]; omega
    · simp [keyReleased, countKind_cons_encodeWindow]
  · exact absurd (hnone ▸ hk ha hp) nofun

theorem releaseIfAbsent (hk : t.KeyKnown i) (seen : List TouchId) : Balanced t (t.releaseIfAbsent seen i) := by
  obtain ⟨ha, -, hr⟩ | ⟨-, hr⟩ := releaseIfAbsent_cases seen i t
  · rw [hr]; exact releaseId ha hk
  · rw [hr]; exact refl t

theorem iterate (hk : ∀ i, t.KeyKnown i) (l : List TpWord) : Balanced t (t.iterate l) := by
  have hvisits : ∀ i, (t.visitAll (visitOrder l)).KeyKnown i := fun i => (hk i).visitAll (visitOrder l)
  have hscan : Balanced (t.visitAll (visitOrder l)) ((t.visitAll (visitOrder l)).releaseScan (seenIds l)) :=
    (releaseIfAbsent (hvisits .id0) (seenIds l)).trans
      (releaseIfAbsent ((hvisits .id1).releaseIfAbsent (seenIds l) .id0) (seenIds l))
  exact ((visitAll t (visitOrder l)).trans hscan).trans (of_silent rfl rfl)

end Balanced

end Tga

/-- Settles O16: the visits and the scan each balance, the scan because an announced contact that is not the pointer has a
key to release. -/
theorem pressesAndReleasesBalance : Obligations.PressesAndReleasesBalance := by
  intro s t inp sf hc hon hp hr hinv hstep
  rw [tga_of_tgaRead hc hon hp hr hstep]
  exact Tga.Balanced.iterate hinv.keyKnown (framePoints sf)

end Sys2Proof.Machine
end

section
/-! TGA's session start, send and wake, and the failed calls of TGA and PID (40_touch_arbiter.md R103, R109, R110, R116,
41_pmu_decoder.md R148): a scheduled agent steps or waits by its phase. -/

namespace Sys2Proof.Machine

/-- A scheduled agent that is not enabled waits (60_exceptions.md R255). -/
theorem step_of_waits {s : State} {a : Agent} {inp : Inputs} (hc : s.nextChoice = .agent a inp)
    (he : (s.begin inp).enabled a = false) : step s = .next (s.begin inp) := by
  rw [step_of_choice hc, move, scheduleAgent]
  exact if_neg (Bool.not_eq_true _ ▸ he)

section
variable {s : State} {inp : Inputs}

theorem begin_enabled_tga (hon : s.sysOff = false) : (s.begin inp).enabled .tga = (s.begin inp).tgaEnabled := by
  simp [State.enabled, hon]

theorem step_of_tgaEnabled (hc : s.nextChoice = .agent .tga inp) (hon : s.sysOff = false)
    (he : (s.begin inp).tgaEnabled = true) : step s = tgaStep (s.begin inp) :=
  step_of_enabled hc ((begin_enabled_tga hon).trans he)

theorem step_of_tgaWaits (hc : s.nextChoice = .agent .tga inp) (hon : s.sysOff = false)
    (he : (s.begin inp).tgaEnabled = false) : step s = .next (s.begin inp) :=
  step_of_waits hc ((begin_enabled_tga hon).trans he)

theorem step_of_pidEnabled (hc : s.nextChoice = .agent .pid inp) (hon : s.sysOff = false)
    (he : (s.begin inp).pidEnabled = true) : step s = .next (pidStep (s.begin inp)) :=
  step_of_enabled hc (by simpa [State.enabled, hon] using he)

end

/-- The bus is refused to TGA exactly where PID comes first and contends (20_memory.md R62, log entry 3). -/
theorem busGrantsTga_eq_false_iff (s : State) :
    s.busGrantsTga = false ↔ s.cfg.evbArb = .pmuFirst ∧ s.pid.phase = .emit ∧ s.pid.outq ≠ [] := by
  simp [State.busGrantsTga, State.pidPushReady]

/-- Settles O12: TGA in its wait is enabled exactly by a latched edge, and its step is the session start. -/
theorem sessionStarts : Obligations.SessionStarts := by
  intro s inp hc hon hp
  refine ⟨fun hedge => ?_, fun hedge => ?_⟩
  · rw [step_of_tgaEnabled hc hon (by simp [State.tgaEnabled, hp, hedge])]
    simp only [tgaStep, tgaSessionStart, State.begin_tga, hp]
    rfl
  · exact step_of_tgaWaits hc hon (by simp [State.tgaEnabled, hp, hedge])

/-- Settles O20: TGA in its send is enabled where nothing is left or where the bus has room and is granted. -/
theorem tgaSendsOrWaits : Obligations.TgaSendsOrWaits := by
  intro s inp hc hon hp pidFirst
  have hgrant : (s.begin inp).busGrantsTga = false ↔ pidFirst := by simpa using busGrantsTga_eq_false_iff (s.begin inp)
  refine ⟨fun hq => ?_, fun e rest hq hroom hno => ?_, fun hq hwait => ?_⟩
  · rw [step_of_tgaEnabled hc hon (by simp [State.tgaEnabled, hp, hq])]
    simp only [tgaStep, tgaEmit, State.begin_tga, hp, hq]
    rfl
  · have hfree : queueFull Config.evbCap s.evbQ = false := (queueFull_eq_false_iff _ _).2 hroom
    have hgranted : (s.begin inp).busGrantsTga = true := by simpa using mt hgrant.1 hno
    rw [step_of_tgaEnabled hc hon (by simp [State.tgaEnabled, hp, hfree, hgranted])]
    simp only [tgaStep, tgaEmit, State.begin_tga, State.begin_evbQ, hp, hq]
    rfl
  · refine step_of_tgaWaits hc hon ?_
    obtain hfull | hfirst := hwait
    · have hbus : queueFull Config.evbCap s.evbQ = true := (queueFull_iff _ _).2 hfull
      simp [State.tgaEnabled, hp, hq, hbus]
    · simp [State.tgaEnabled, hp, hq, hgrant.2 hfirst]

/-- Settles O21: TGA in its sleep is enabled exactly by a timer that has run out. -/
theorem tgaWakes : Obligations.TgaWakes := by
  intro s inp hc hon hp
  refine ⟨fun htimer => ?_, fun htimer hempty => ?_, fun htimer hempty => ?_⟩
  · exact step_of_tgaWaits hc hon (by simpa [State.tgaEnabled, hp] using htimer)
  all_goals
    rw [step_of_tgaEnabled hc hon (by simp [State.tgaEnabled, hp, htimer])]
    simp only [tgaStep, tgaWake, State.begin_tga, hp, hempty]
    rfl

/-- What the fatal faults of a failed read or clear do (60_exceptions.md R244, R245). -/
theorem raiseFatal_touchRead (s : State) :
    raiseFatal .touchRead s = { s.output (.log 0x01) with tga := { s.tga with phase := .halt } } := rfl
theorem raiseFatal_pmuRead (s : State) :
    raiseFatal .pmuRead s = { s.output (.log 0x12) with pid := { s.pid with phase := .halt } } := rfl
theorem raiseFatal_pmuClear (s : State) :
    raiseFatal .pmuClear s = { s.output (.log 0x13) with pid := { s.pid with phase := .halt } } := rfl

/-- Settles O26: each read or clear that is answered with `Err` raises its agent's fatal fault. -/
theorem failedReadHaltsItsAgent : Obligations.FailedReadHaltsItsAgent := by
  intro s inp hon
  refine ⟨fun hc hp hr => ?_, fun hc hp hr => ?_, fun hc hp hr => ?_⟩
  · rw [step_of_tgaEnabled hc hon (by simp [State.tgaEnabled, hp])]
    simp only [tgaStep, tgaRead, State.begin_tga, State.begin_inp, hp, hr, raiseFatal_touchRead, State.output_tga]
  · rw [step_of_pidEnabled hc hon (by simp [State.pidEnabled, hp])]
    simp only [pidStep, pidRead, State.begin_pid, State.begin_inp, hp, hr, raiseFatal_pmuRead, State.output_pid]
  · rw [step_of_pidEnabled hc hon (by simp [State.pidEnabled, hp])]
    simp only [pidStep, pidClear, State.begin_pid, State.begin_inp, hp, hr, callDevice_err, raiseFatal_pmuClear,
      State.output_pid]

end Sys2Proof.Machine
end

section
/-! PID's decoded list (41_pmu_decoder.md R144, R145): one event for each status bit that is set and kept, in rising order,
which is the order of the events' words as numbers. -/

namespace Sys2Proof.Machine

/-! ## The words -/

theorem toNat_append_eq_add {m n : Nat} (x : BitVec m) (y : BitVec n) : (x ++ y).toNat = x.toNat * 2 ^ n + y.toNat := by
  rw [BitVec.toNat_append, ← Nat.shiftLeft_add_eq_or_of_lt y.isLt, Nat.shiftLeft_eq]

/-- The register index and the bit number are the two low octal digits of an event's word (30_encoding.md R74). -/
theorem pmuEvent_toNat (reg bit : BitVec 3) : (pmuEvent reg bit).toNat = 2 ^ 39 + 8 * reg.toNat + bit.toNat := by
  simp only [pmuEvent, encodePmu, toNat_append_eq_add, BitVec.ofNat_eq_ofNat, BitVec.toNat_ofNat]
  omega

theorem pmuEvent_ofNat_toNat {r b : Nat} (hr : r < 8) (hb : b < 8) :
    (pmuEvent (BitVec.ofNat 3 r) (BitVec.ofNat 3 b)).toNat = 2 ^ 39 + 8 * r + b := by
  rw [pmuEvent_toNat, BitVec.toNat_ofNat, BitVec.toNat_ofNat, Nat.mod_eq_of_lt hr, Nat.mod_eq_of_lt hb]

/-! ## Membership -/

theorem mem_decodeRegister_iff {masked : Byte} {r : Nat} {w : EvWord} :
    w ∈ decodeRegister masked r ↔
      ∃ b < 8, masked.getLsbD b = true ∧ w = pmuEvent (BitVec.ofNat 3 r) (BitVec.ofNat 3 b) := by
  simp only [decodeRegister, Config.pmuRegW, List.mem_map, List.mem_filter, List.mem_range, and_assoc, eq_comm]

theorem maskedByte_getLsbD_iff (cfg : Params) (stat : List Byte) (r b : Nat) :
    (maskedByte cfg stat r).getLsbD b = true ↔
      (stat.getD r 0).getLsbD b = true ∧ (cfg.pmuMask.getD r 0).getLsbD b = true := by
  rw [maskedByte, BitVec.getLsbD_and, Bool.and_eq_true]

theorem mem_pidDecode_iff {cfg : Params} {stat : List Byte} {w : EvWord} :
    w ∈ pidDecode cfg stat ↔
      ∃ r b : Nat, r < cfg.pmuNreg ∧ b < 8 ∧ (stat.getD r 0).getLsbD b = true
        ∧ (cfg.pmuMask.getD r 0).getLsbD b = true ∧ w = pmuEvent (BitVec.ofNat 3 r) (BitVec.ofNat 3 b) := by
  simp only [pidDecode, List.mem_flatMap, List.mem_range, mem_decodeRegister_iff, maskedByte_getLsbD_iff, and_assoc,
    exists_and_left]

/-! ## Order -/

/-- Within a register the events rise with the bit. -/
theorem decodeRegister_pairwise (masked : Byte) {r : Nat} (hr : r < 8) :
    (decodeRegister masked r).Pairwise fun v w => v.toNat < w.toNat := by
  refine List.pairwise_map.2 ((List.pairwise_lt_range.filter _).imp_of_mem fun {a b} ha hb hlt => ?_)
  have ha8 : a < 8 := List.mem_range.1 (List.mem_filter.1 ha).1
  have hb8 : b < 8 := List.mem_range.1 (List.mem_filter.1 hb).1
  rw [pmuEvent_ofNat_toNat hr ha8, pmuEvent_ofNat_toNat hr hb8]
  omega

/-- Every event of a register comes before every event of a later one. -/
theorem toNat_lt_of_mem_decodeRegister {m n : Byte} {q r : Nat} (hqr : q < r) (hr : r < 8) {v w : EvWord}
    (hv : v ∈ decodeRegister m q) (hw : w ∈ decodeRegister n r) : v.toNat < w.toNat := by
  obtain ⟨a, ha8, -, rfl⟩ := mem_decodeRegister_iff.1 hv
  obtain ⟨b, hb8, -, rfl⟩ := mem_decodeRegister_iff.1 hw
  rw [pmuEvent_ofNat_toNat (hqr.trans hr) ha8, pmuEvent_ofNat_toNat hr hb8]
  omega

theorem pidDecode_pairwise {cfg : Params} (hn : cfg.pmuNreg ≤ 8) (stat : List Byte) :
    (pidDecode cfg stat).Pairwise fun v w => v.toNat < w.toNat := by
  refine List.pairwise_flatMap.2 ⟨fun r hr => ?_, List.pairwise_lt_range.imp_of_mem fun {q r} _ hr hqr v hv w hw => ?_⟩
  · exact decodeRegister_pairwise _ ((List.mem_range.1 hr).trans_le hn)
  · exact toNat_lt_of_mem_decodeRegister hqr ((List.mem_range.1 hr).trans_le hn) hv hw

/-- Settles O24: the two loops of `pid_decode` list the kept bits, and register before bit is the order of the words. -/
theorem pidDecodesTheKeptBits : Obligations.PidDecodesTheKeptBits :=
  fun _ stat hn => ⟨fun _ => mem_pidDecode_iff, pidDecode_pairwise hn stat⟩

end Sys2Proof.Machine
end

section
/-! PID's wait, read, clear, send and guard sleep (41_pmu_decoder.md R141 to R147): a scheduled PID steps or waits by its
phase. -/

namespace Sys2Proof.Machine

theorem step_of_pidWaits {s : State} {inp : Inputs} (hc : s.nextChoice = .agent .pid inp)
    (he : (s.begin inp).pidEnabled = false) : step s = .next (s.begin inp) :=
  step_of_waits hc (by simp [State.enabled, he])

/-- The bus is refused to PID exactly where TGA comes first and has a push that the bus has room for (20_memory.md R62, log
entry 3). -/
theorem busGrantsPid_eq_false_iff (s : State) :
    s.busGrantsPid = false ↔
      (s.cfg.evbArb = .touchFirst ∧ s.tga.phase = .emit ∧ s.tga.outq ≠ []) ∧ s.evbQ.length < 32 := by
  simp [State.busGrantsPid, State.tgaPushReady, queueFull_eq_false_iff, Config.evbCap, and_assoc]

theorem queueTryPush_of_lt {α : Type} {cap : Nat} {q : List α} (h : q.length < cap) (m : α) :
    queueTryPush cap q m = q ++ [m] := by
  obtain ⟨hfull, -⟩ | ⟨-, hpush⟩ := queueTryPush_cases cap q m
  · omega
  · exact hpush

theorem queueTryPush_of_le {α : Type} {cap : Nat} {q : List α} (h : cap ≤ q.length) (m : α) :
    queueTryPush cap q m = q := by
  obtain ⟨-, hdrop⟩ | ⟨hroom, -⟩ := queueTryPush_cases cap q m
  · exact hdrop
  · omega

theorem pidRead_of_ok {s : State} {ps : PsWord} (hr : s.env.inp.pmuRead = .ok ps) :
    pidRead s = { s.output (.call .pmuRead .ok) with
      pid := { s.pid with stat := statusBytes s.cfg.pmuNreg ps, phase := .clear } } := by
  simp only [pidRead, hr]
  rfl

theorem pidClear_of_ok {s : State} (hr : s.env.inp.pmuClear = .ok) :
    pidClear s = { s.output (.call .pmuClear .ok) with
      pid := { s.pid with outq := pidDecode s.cfg s.pid.stat, phase := .emit } } := by
  rw [pidClear, hr, callDevice_ok]
  rfl

/-- PID's send of its head: it leaves the out-queue, whether the bus takes it or not (R146). -/
theorem step_of_pidSend {s : State} {inp : Inputs} {e : EvWord} {rest : List EvWord} (hc : s.nextChoice = .agent .pid inp)
    (hon : s.sysOff = false) (hp : s.pid.phase = .emit) (hq : s.pid.outq = e :: rest)
    (hgranted : (s.begin inp).busGrantsPid = true) :
    step s = .next { s.begin inp with evbQ := queueTryPush Config.evbCap s.evbQ e, pid := { s.pid with outq := rest } } := by
  rw [step_of_pidEnabled hc hon (by simp [State.pidEnabled, hp, hgranted])]
  simp only [pidStep, pidEmit, State.begin_pid, State.begin_evbQ, hp, hq]
  rfl

/-- Settles O22: PID in its wait is enabled exactly by the asserted line, in its sleep exactly by a timer that has run out. -/
theorem pidWaitsForTheLine : Obligations.PidWaitsForTheLine := by
  intro s inp hc hon
  refine ⟨fun hp hline => ?_, fun hp hline => ?_, fun hp htimer => ?_, fun hp htimer => ?_⟩
  · rw [step_of_pidEnabled hc hon (by simp [State.pidEnabled, hp, hline])]
    simp only [pidStep, State.begin_pid, hp]
    rfl
  · exact step_of_pidWaits hc (by simp [State.pidEnabled, hp, hline])
  · exact step_of_pidWaits hc (by simpa [State.pidEnabled, hp] using htimer)
  · rw [step_of_pidEnabled hc hon (by simp [State.pidEnabled, hp, htimer])]
    simp only [pidStep, State.begin_pid, hp]
    rfl

/-- Settles O23: both phases are always enabled, and an `Ok` answer leads from the read to the clear and on to the send. -/
theorem pidReadsThenClears : Obligations.PidReadsThenClears := by
  intro s inp hc hon
  refine ⟨fun ps hp hr => ?_, fun hp hr => ?_⟩
  · rw [step_of_pidEnabled hc hon (by simp [State.pidEnabled, hp])]
    have hread := pidRead_of_ok (s := s.begin inp) (ps := ps) (by rw [State.begin_inp, hr])
    simp only [pidStep, hread, State.begin_pid, State.begin_cfg, hp]
    rfl
  · rw [step_of_pidEnabled hc hon (by simp [State.pidEnabled, hp])]
    have hclear := pidClear_of_ok (s := s.begin inp) (by rw [State.begin_inp, hr])
    simp only [pidStep, hclear, State.begin_pid, State.begin_cfg, hp]

/-- Settles O25: a full bus refuses PID nothing, and drops its head; a bus with room takes the head unless TGA goes first. -/
theorem pidSendsOrDrops : Obligations.PidSendsOrDrops := by
  intro s inp hc hon hp tgaFirst
  have hrefused : (s.begin inp).busGrantsPid = false ↔ tgaFirst ∧ s.evbQ.length < 32 := by
    simpa using busGrantsPid_eq_false_iff (s.begin inp)
  have hgranted (h : ¬ (tgaFirst ∧ s.evbQ.length < 32)) : (s.begin inp).busGrantsPid = true := by
    simpa using mt hrefused.1 h
  refine ⟨fun hq => ?_, fun e rest hq hroom hno => ?_, fun e rest hq hfull => ?_, fun hq hroom hfirst => ?_⟩
  · rw [step_of_pidEnabled hc hon (by simp [State.pidEnabled, hp, hq])]
    simp only [pidStep, pidEmit, State.begin_pid, hp, hq]
    rfl
  · rw [step_of_pidSend hc hon hp hq (hgranted fun h => hno h.1), queueTryPush_of_lt (cap := Config.evbCap) hroom]
  · rw [step_of_pidSend hc hon hp hq (hgranted fun h => absurd h.2 (Nat.not_lt.2 hfull)),
      queueTryPush_of_le (cap := Config.evbCap) hfull, ← s.begin_evbQ inp]
  · exact step_of_pidWaits hc (by simp [State.pidEnabled, hp, hq, hrefused.2 ⟨hfirst, hroom⟩])

end Sys2Proof.Machine
end

section
/-! ADV's items and its step, phase by phase (42_adv_randomizer.md R161 to R174): the effect of the four commands, the
radio operations where the radio answers `Ok` and where it answers `Err`, and what a scheduled ADV runs. -/

namespace Sys2Proof.Machine

/-! ## The commands -/

theorem Adv.setRunning_eq_self {a : Adv} {v : Bool} (h : a.running = v) : a.setRunning v = a := by
  subst h
  rfl

/-- Settles O27: each command is one update of ADV's registers, and the running flag may already be set. -/
theorem commandsHaveTheirOneEffect : Obligations.CommandsHaveTheirOneEffect := by
  intro s unused level
  refine ⟨rfl, fun hrun => ?_, rfl, rfl, rfl⟩
  change Host.Outcome.next (s.setAdv (s.adv.setRunning true)) = .next s
  rw [Adv.setRunning_eq_self hrun, State.setAdv_self]

/-! ## The radio operations -/

/-- A refused radio operation halts ADV with the log word of its fault (R174, 60_exceptions.md R245). -/
theorem callRadio_halts {c : FatalCause} (hc : causeAgent c = .adv) (op : RadioOp) (onOk : Adv → Adv) {s : State}
    (h : s.env.inp.radio = .err) :
    callRadio op c onOk s = { (s.output (.call (.radio op) .err)).output (.log (fatalLog c)) with
      adv := { s.adv with phase := .halt } } := by
  rw [callRadio_err op c onOk s h, raiseFatal, hc]
  rfl

/-- Settles O31: each operation is a call that the radio accepts, and moves ADV to its next phase. -/
theorem radioOperationsComplete : Obligations.RadioOperationsComplete := by
  intro s hok
  have accepted (op : RadioOp) (c : FatalCause) (onOk : Adv → Adv) :
      (.next (callRadio op c onOk s) : Result) = .next { s.output (.call (.radio op) .ok) with adv := onOk s.adv } :=
    congrArg _ (callRadio_ok op c onOk s hok)
  exact ⟨fun _ => accepted _ _ _, fun _ => accepted _ _ _, fun _ _ => accepted _ _ _, accepted _ _ _, accepted _ _ _⟩

/-- Settles O32: each operation is a call that the radio refuses, and its fault is one of ADV's. -/
theorem radioFailureHaltsAdv : Obligations.RadioFailureHaltsAdv := by
  intro s herr halted
  have refused (c : FatalCause) (hc : causeAgent c = .adv) (op : RadioOp) (onOk : Adv → Adv) :
      (.next (callRadio op c onOk s) : Result) = .next (halted op (fatalLog c)) :=
    congrArg _ (callRadio_halts hc op onOk herr)
  exact ⟨fun _ => refused .radioSetAddr rfl _ _, fun _ => refused .radioSetTxpwr rfl _ _,
    fun _ _ => refused .radioSetAdv rfl _ _, refused .radioStart rfl _ _, refused .radioStop rfl _ _⟩

/-! ## A scheduled ADV -/

section
variable {s : State} {inp : Inputs}

theorem step_of_advEnabled (hc : s.nextChoice = .agent .adv inp) (hon : s.sysOff = false)
    (he : (s.begin inp).advEnabled = true) : step s = advStep (s.begin inp) :=
  step_of_enabled hc (by simpa [State.enabled, hon] using he)

theorem step_of_advWaits (hc : s.nextChoice = .agent .adv inp) (he : (s.begin inp).advEnabled = false) :
    step s = .next (s.begin inp) :=
  step_of_waits hc (by simp [State.enabled, he])

/-- ADV in its drain pops the head of `ctl_q`, or ends the drain (R161). -/
theorem step_of_advDrain (hc : s.nextChoice = .agent .adv inp) (hon : s.sysOff = false) (hp : s.adv.phase = .drain) :
    step s = advDrain (s.begin inp) := by
  rw [step_of_advEnabled hc hon (by simp [State.advEnabled, hp])]
  simp only [advStep, State.begin_adv, hp]

theorem step_of_advDrainEnds (hc : s.nextChoice = .agent .adv inp) (hon : s.sysOff = false) (hp : s.adv.phase = .drain)
    (hq : s.ctlQ = []) : step s = .next (advDrainEnd (s.begin inp)) := by
  rw [step_of_advDrain hc hon hp]
  simp only [advDrain, State.begin_ctlQ, hq, queueTryPop]

/-- ADV in its synthesis makes its draws and builds the profile (R167). -/
theorem step_of_advSynth (hc : s.nextChoice = .agent .adv inp) (hon : s.sysOff = false) (hp : s.adv.phase = .synth) :
    step s = .next (advSynth (s.begin inp)) := by
  rw [step_of_advEnabled hc hon (by simp [State.advEnabled, hp])]
  simp only [advStep, State.begin_adv, hp]

/-- A radio phase is always enabled, and its step is the operation that ADV issues there. -/
theorem advStep_of_issued {i : Instr} (hi : s.adv.issued = some i) : s.advEnabled = true ∧ advStep s = exec i s := by
  have hissue : advIssue s = exec i s := by rw [advIssue, hi]
  cases hp : s.adv.phase with
  | setAddr | setPwr | setAdv | start | stop => simp [State.advEnabled, advStep, hp, hissue]
  | _ => simp [Adv.issued, hp] at hi

/-- ADV in a radio phase issues the phase's operation (R172, R173). -/
theorem step_of_advIssue {i : Instr} (hc : s.nextChoice = .agent .adv inp) (hon : s.sysOff = false)
    (hi : s.adv.issued = some i) : step s = exec i (s.begin inp) := by
  obtain ⟨he, hs⟩ := advStep_of_issued (s := s.begin inp) (i := i) (by rw [State.begin_adv, hi])
  rw [step_of_advEnabled hc hon he, hs]

end

/-- Settles O6: the drain executes the item that the head of `ctl_q` decodes to. -/
theorem stepRunsTheCommand : Obligations.StepRunsTheCommand := by
  intro s inp w rest i hc hon hp hq hi
  rw [step_of_advDrain hc hon hp]
  simp only [advDrain, State.begin_ctlQ, hq, queueTryPop, hi]
  rfl

/-- Settles O9: in each of the five phases the operation that ADV issues is the one named. -/
theorem stepIssuesTheRadioOperation : Obligations.StepIssuesTheRadioOperation := by
  intro s inp hc hon
  have issues (i : Instr) (hi : s.adv.issued = some i) := step_of_advIssue hc hon hi
  refine ⟨fun hp => issues _ ?_, fun hp => issues _ ?_, fun hp => issues _ ?_, fun hp => issues _ ?_,
    fun hp => issues _ ?_⟩
  all_goals simp only [Adv.issued, hp]

/-- Settles O28: the drain ends where `ctl_q` is empty, and ADV in a delay is enabled exactly by a timer that has run out. -/
theorem advDrainEndsAndAdvWakes : Obligations.AdvDrainEndsAndAdvWakes := by
  intro s inp hc hon
  refine ⟨fun hp hq hrun => ?_, fun hp hq hrun => ?_, fun hp htimer => ?_, fun hp htimer => ?_, fun hp htimer => ?_,
    fun hp htimer => ?_⟩
  · rw [step_of_advDrainEnds hc hon hp hq, advDrainEnd, State.begin_adv, if_pos hrun]
    rfl
  · rw [step_of_advDrainEnds hc hon hp hq, advDrainEnd, State.begin_adv, if_neg (by simp [hrun])]
    rfl
  · refine step_of_advWaits hc ?_
    obtain hp | hp | hp := hp <;> simpa [State.advEnabled, hp] using htimer
  all_goals
    rw [step_of_advEnabled hc hon (by simp [State.advEnabled, hp, htimer])]
    simp only [advStep, State.begin_adv, hp]
    rfl

/-! ## The synthesis -/

/-- The power register is three bits, so the step is the register (R171). -/
theorem powerStep_eq (power : BitVec 3) : powerStep power = power := by
  have hmin : min power.toNat (Config.advPowerSteps - 1) = power.toNat := Nat.min_eq_left (Nat.le_of_lt_succ power.isLt)
  rw [powerStep, hmin, BitVec.ofNat_toNat, BitVec.setWidth_eq]

/-- The mode is bit 0 of the second draw (R170). -/
theorem chooseMode_eq (r2 : Draw) : chooseMode r2 = if r2.getLsbD 0 then .undirected else .nonConnectable := by
  have hbit : r2.extractLsb' 0 1 = BitVec.ofBool (r2.getLsbD 0) := by
    ext i hi
    simp [BitVec.getElem_ofBool, Nat.lt_one_iff.1 hi]
  rw [chooseMode, hbit]
  cases r2.getLsbD 0 <;> rfl

/-- The entry is the first draw without its bit 0, modulo the size of the pool (R168). -/
theorem choosePayload_eq (cfg : Params) (r1 : Draw) :
    choosePayload cfg r1 =
      let pool := if r1.getLsbD 0 then cfg.poolShort else cfg.poolLong
      pool.getD (r1.toNat / 2 % pool.length) [] := by
  simp only [choosePayload, BitVec.toNat_ushiftRight, Nat.shiftRight_one]

/-- Settles O29: the draws are those at the ports, and each part of the profile is its equation. -/
theorem synthesisBuildsTheProfile : Obligations.SynthesisBuildsTheProfile := by
  intro s inp hc hon hp hmode pool
  rw [step_of_advSynth hc hon hp]
  simp only [advSynth, advDraws, State.begin_cfg, State.begin_adv, State.begin_inp, hmode, synthProfile, powerStep_eq,
    chooseMode_eq, choosePayload_eq, State.setAdv]
  rfl

end Sys2Proof.Machine
end

section
/-! The reference generator (42_adv_randomizer.md R167, R178): a draw is 32 shifts of it, and no shift leads to 0. -/

namespace Sys2Proof.Machine

/-- The last of the shifts taken apart, where the definition takes the first. -/
theorem lfsrShifts_succ (n : Nat) (g : Draw) : lfsrShifts (n + 1) g = lfsrShift (lfsrShifts n g) := by
  induction n generalizing g with
  | zero => rfl
  | succ n ih => exact ih (lfsrShift g)

theorem lfsrShifts_eq_repeat (n : Nat) (g : Draw) : lfsrShifts n g = Nat.repeat lfsrShift n g := by
  induction n with
  | zero => rfl
  | succ n ih => rw [lfsrShifts_succ, ih, Nat.repeat]

/-- A state with bit 0 set gets bit 31 from the mask; any other loses no bit. -/
theorem lfsrShift_ne_zero {g : Draw} (h : g ≠ 0) : lfsrShift g ≠ 0 := by
  unfold lfsrShift
  split
  next hbit =>
    intro hzero
    have htop := congrArg (BitVec.getLsbD · 31) hzero
    simp [Config.lfsrMask] at htop
  next hbit =>
    have hlow : g.toNat % 2 = 0 := by simpa [BitVec.getLsbD, Nat.testBit_zero] using hbit
    bv_omega

theorem lfsrShifts_ne_zero (n : Nat) {g : Draw} (h : g ≠ 0) : lfsrShifts n g ≠ 0 := by
  induction n generalizing g with
  | zero => exact h
  | succ n ih => exact ih (lfsrShift_ne_zero h)

/-- Settles O30: the draws of the step are two in a row, and every shift of a draw keeps the state from 0. -/
theorem synthesisFromReferenceGenerator : Obligations.SynthesisFromReferenceGenerator := by
  refine ⟨fun s inp hc hon hp hmode => ?_, fun g => ⟨fun h => ?_, fun h => ?_, ?_, ?_⟩⟩
  · rw [step_of_advSynth hc hon hp]
    simp only [advSynth, advDraws, State.begin_cfg, State.begin_adv, hmode, State.setAdv]
  · rw [lfsrShift, if_pos h]; rfl
  · rw [lfsrShift, if_neg (Bool.not_eq_true _ ▸ h)]
  · exact lfsrShifts_eq_repeat 32 g
  · exact lfsrShifts_ne_zero 32

end Sys2Proof.Machine
end

section
/-! The radio port (42_adv_randomizer.md R165, R168, R173, R174, R176): the operations that have left it and their answers.
Only ADV's radio phases add to them, so one rule says of every other step that it leaves them alone, and the two invariants
about the port are then facts about ADV's moves. -/

namespace Sys2Proof.Machine

/-! ## The operations that have left the port -/

/-- The radio operation that an output is, with its answer. -/
def Output.radioCall : Output → Option (RadioOp × Status)
  | .call (.radio op) r => some (op, r)
  | _ => none

theorem Output.radioCall_eq_some_iff {o : Output} {op : RadioOp} {r : Status} :
    o.radioCall = some (op, r) ↔ o = .call (.radio op) r := by
  unfold Output.radioCall
  split <;> simp_all

/-- The radio operations that have left the ports, with their answers, oldest first. -/
def State.radioCalls (s : State) : List (RadioOp × Status) := s.env.outs.filterMap Output.radioCall

theorem mem_radioCalls_iff {s : State} {op : RadioOp} {r : Status} :
    (op, r) ∈ s.radioCalls ↔ .call (.radio op) r ∈ s.env.outs := by
  simp [State.radioCalls, Output.radioCall_eq_some_iff]

theorem radioCalls_of_outs {s t : State} (h : t.env.outs = s.env.outs) : t.radioCalls = s.radioCalls := by
  rw [State.radioCalls, h, State.radioCalls]

theorem radioCalls_output_radio (s : State) (op : RadioOp) (r : Status) :
    (s.output (.call (.radio op) r)).radioCalls = s.radioCalls ++ [(op, r)] := by
  simp [State.radioCalls, Output.radioCall]

theorem radioCalls_output_of_none {o : Output} (h : o.radioCall = none) (s : State) :
    (s.output o).radioCalls = s.radioCalls := by
  simp [State.radioCalls, h]

/-- Whether the radio is on air after one more operation. -/
def airAfter (on : Bool) : RadioOp × Status → Bool
  | (.startAdv, .ok) => true
  | (.stopAdv, .ok) => false
  | _ => on

theorem onAir_eq_foldl (s : State) : onAir s.env.outs = s.radioCalls.foldl airAfter false := by
  rw [State.radioCalls, List.foldl_filterMap, onAir]
  congr 1
  funext on o
  cases o with
  | call c r =>
    cases c with
    | radio op => cases op <;> cases r <;> rfl
    | _ => rfl
  | _ => rfl

/-! ## Steps that leave the radio alone -/

/-- Between `s` and `t` nothing has left the radio port, and ADV is in the same place of the same cycle. -/
structure SameRadio (s t : State) : Prop where
  cfg : t.cfg = s.cfg
  phase : t.adv.phase = s.adv.phase
  profile : t.adv.profile = s.adv.profile
  calls : t.radioCalls = s.radioCalls

namespace SameRadio

variable {s t : State}

theorem refl (s : State) : SameRadio s s := ⟨rfl, rfl, rfl, rfl⟩

theorem trans {u : State} (h : SameRadio s t) (g : SameRadio t u) : SameRadio s u :=
  ⟨g.cfg.trans h.cfg, g.phase.trans h.phase, g.profile.trans h.profile, g.calls.trans h.calls⟩

theorem dropChoice (s : State) : SameRadio s s.dropChoice := ⟨by simp, by simp, by simp, radioCalls_of_outs (by simp)⟩

theorem begin (s : State) (inp : Inputs) : SameRadio s (s.begin inp) :=
  ⟨by simp, by simp, by simp, radioCalls_of_outs (by simp)⟩

/-- An output that is no radio operation. -/
theorem output {o : Output} (ho : o.radioCall = none) (s : State) : SameRadio s (s.output o) :=
  ⟨rfl, rfl, rfl, radioCalls_output_of_none ho s⟩

/-! ### Agents -/

theorem raiseFatal {c : FatalCause} (hc : causeAgent c ≠ .adv) (s : State) : SameRadio s (raiseFatal c s) := by
  have hlog := output (o := .log (fatalLog c)) rfl s
  obtain ⟨-, he⟩ | ⟨-, he⟩ | ⟨ha, -⟩ := raiseFatal_cases c s
  · rw [he]; exact hlog.trans ⟨rfl, rfl, rfl, rfl⟩
  · rw [he]; exact hlog.trans ⟨rfl, rfl, rfl, rfl⟩
  · exact absurd ha hc

theorem tgaMove (h : TgaMove s t) : SameRadio s t := by
  cases h with
  | readFails hp hr => exact (output rfl s).trans (raiseFatal (by decide) _)
  | iteration sf hp hr => exact (output (o := .call .touchRead .ok) rfl s).trans ⟨rfl, rfl, rfl, rfl⟩
  | _ => exact ⟨rfl, rfl, rfl, rfl⟩

theorem pidMove (h : PidMove s t) : SameRadio s t := by
  cases h with
  | readFails hp hr => exact (output rfl s).trans (raiseFatal (by decide) _)
  | read ps hp hr => exact (output (o := .call .pmuRead .ok) rfl s).trans ⟨rfl, rfl, rfl, rfl⟩
  | clearFails hp hr => exact (output rfl s).trans (raiseFatal (by decide) _)
  | clear hp hr => exact (output (o := .call .pmuClear .ok) rfl s).trans ⟨rfl, rfl, rfl, rfl⟩
  | _ => exact ⟨rfl, rfl, rfl, rfl⟩

theorem lockGate (w : EvWord) (s : State) : SameRadio s (lockGate w s) := by
  unfold Machine.lockGate
  split
  · exact refl s
  · exact output rfl s

theorem powerOffAction (s : State) : SameRadio s (powerOffAction s) :=
  (output (o := .powerOff) rfl s).trans ⟨rfl, rfl, rfl, rfl⟩

theorem pmuAction (code : ReasonCode) (s : State) : SameRadio s (pmuAction code s) := by
  unfold Machine.pmuAction
  split_ifs
  · exact ⟨rfl, rfl, rfl, rfl⟩
  · exact ⟨rfl, rfl, rfl, rfl⟩
  · exact powerOffAction s
  · exact output rfl s

theorem exec_event {i : Instr} (hf : i.format = .ev) (h : exec i s = .next t) : SameRadio s t := by
  cases i with
  | evPtrPressed f | evPtrMoved f | evPtrReleased f | evPtrExited f | evKeyPressed f | evKeyReleased f =>
    cases h; exact lockGate _ s
  | evPmu unused reg bit => cases h; exact pmuAction _ s
  | _ => cases hf

theorem dspRedraw (s : State) : SameRadio s (dspRedraw s) := by
  simp only [Machine.dspRedraw]
  split
  · exact (output (o := .redraw) rfl s).trans ⟨rfl, rfl, rfl, rfl⟩
  · exact ⟨rfl, rfl, rfl, rfl⟩

theorem dspMove (h : DspMove s t) : SameRadio s t := by
  have popped (rest : List EvWord) : SameRadio s (s.setEvbQ rest) := ⟨rfl, rfl, rfl, rfl⟩
  cases h with
  | event w rest i hp hq hd hx => exact (popped rest).trans (exec_event (decodeEv_format hd) hx)
  | reservedEvent w rest err hp hq hd => exact (popped rest).trans (lockGate w _)
  | drainEnds hp hq => exact ⟨rfl, rfl, rfl, rfl⟩
  | redraw hp => exact dspRedraw s
  | wake hp => exact ⟨rfl, rfl, rfl, rfl⟩

/-! ### Inputs -/

theorem touchEdgeArrives (s : State) : SameRadio s (touchEdgeArrives s) := by
  obtain ⟨tga, he⟩ := touchEdgeArrives_writes s
  rw [he]; exact ⟨rfl, rfl, rfl, rfl⟩

theorem commandOffered (w : CcWord) (s : State) : SameRadio s (commandOffered w s) := by
  obtain ⟨-, he⟩ | ⟨-, he⟩ := commandOffered_cases w s
  · rw [he]; exact ⟨rfl, rfl, rfl, rfl⟩
  · rw [he]; exact refl s

theorem uiPowerOffArrives (s : State) : SameRadio s (uiPowerOffArrives s) := by
  unfold Machine.uiPowerOffArrives
  split
  · exact refl s
  · exact powerOffAction s

theorem elapseTime (ms : Nat) (s : State) : SameRadio s (elapseTime ms s) := by
  rw [elapseTime_eq]
  split <;> exact ⟨rfl, rfl, rfl, rfl⟩

theorem elapsedQueryArrives (s : State) : SameRadio s (elapsedQueryArrives s) := by
  unfold Machine.elapsedQueryArrives
  split
  · exact refl s
  · exact (⟨rfl, rfl, rfl, rfl⟩ : SameRadio s (s.setStartInstant (some s.startNow))).trans (output rfl _)

end SameRadio

/-- Everything a step can be for the radio: ADV's own step, a reset, or a step that leaves it alone. -/
theorem step_radio_cases {s t : State} (h : step s = .next t) :
    (∃ inp, AdvMove (s.begin inp) t) ∨ (s.nextChoice = .powerOnReset ∧ t = powerOnReset s.dropChoice)
    ∨ SameRadio s t := by
  cases step_move h with
  | waits a inp hc he => exact .inr (.inr (.begin s inp))
  | agent a inp hc he ha =>
    cases a with
    | tga => exact .inr (.inr ((SameRadio.begin s inp).trans (.tgaMove (tgaStep_move ha))))
    | pid => cases ha; exact .inr (.inr ((SameRadio.begin s inp).trans (.pidMove (pidStep_move _))))
    | adv => exact .inl ⟨inp, advStep_move ha⟩
    | dsp => exact .inr (.inr ((SameRadio.begin s inp).trans (.dspMove (dspStep_move ha))))
  | touchEdge hc => exact .inr (.inr ((SameRadio.dropChoice s).trans (.touchEdgeArrives _)))
  | command w hc => exact .inr (.inr ((SameRadio.dropChoice s).trans (.commandOffered w _)))
  | uiPowerOff hc => exact .inr (.inr ((SameRadio.dropChoice s).trans (.uiPowerOffArrives _)))
  | elapse ms hc => exact .inr (.inr ((SameRadio.dropChoice s).trans (.elapseTime ms _)))
  | elapsedQuery hc => exact .inr (.inr ((SameRadio.dropChoice s).trans (.elapsedQueryArrives _)))
  | powerOnReset hc => exact .inr (.inl ⟨hc, rfl⟩)

/-! ## ADV's moves at the radio -/

/-- The operation that ADV issues in each radio phase, and the phase it takes ADV to where the radio accepts it. -/
inductive Issues (a : Adv) : RadioOp → APhase → Prop where
  | setAddr (hp : a.phase = .setAddr) : Issues a (.setAddr a.profile.addr) .setPwr
  | setTxpwr (hp : a.phase = .setPwr) : Issues a (.setTxpwr a.profile.step) .setAdv
  | setAdv (hp : a.phase = .setAdv) : Issues a (.setAdv a.profile.mode a.profile.payload) .start
  | startAdv (hp : a.phase = .start) : Issues a .startAdv .hold
  | stopAdv (hp : a.phase = .stop) : Issues a .stopAdv .settle

/-- Everything the issue of a radio operation can do, by the radio's answer (R172 to R174). -/
inductive IssueMove (s t : State) : Prop where
  | accepted {op : RadioOp} (hi : Issues s.adv op t.adv.phase) (hcfg : t.cfg = s.cfg)
      (hcalls : t.radioCalls = s.radioCalls ++ [(op, .ok)]) (hprofile : t.adv.profile = s.adv.profile)
  | refused {op : RadioOp} {p : APhase} (hi : Issues s.adv op p) (hcfg : t.cfg = s.cfg)
      (hcalls : t.radioCalls = s.radioCalls ++ [(op, .err)]) (ht : t.adv.phase = .halt)

theorem callRadio_move {s : State} {c : FatalCause} (hc : causeAgent c = .adv) {op : RadioOp} {onOk : Adv → Adv}
    (hi : Issues s.adv op (onOk s.adv).phase) (hprofile : (onOk s.adv).profile = s.adv.profile) :
    IssueMove s (callRadio op c onOk s) := by
  cases hr : s.env.inp.radio with
  | ok =>
    rw [callRadio_ok op c onOk s hr]
    exact .accepted hi rfl (radioCalls_output_radio s op .ok) hprofile
  | err =>
    have hcalls := (radioCalls_output_of_none (o := .log (fatalLog c)) rfl _).trans (radioCalls_output_radio s op .err)
    rw [callRadio_halts hc op onOk hr]
    exact .refused hi rfl hcalls rfl

theorem exec_issued_move {s t : State} {i : Instr} (hi : s.adv.issued = some i) (h : exec i s = .next t) :
    IssueMove s t := by
  unfold Adv.issued at hi
  split at hi
  next hp => cases hi; cases h; exact callRadio_move rfl (.setAddr hp) rfl
  next hp => cases hi; cases h; exact callRadio_move rfl (.setTxpwr hp) rfl
  next hp => cases hi; cases h; exact callRadio_move rfl (.setAdv hp) rfl
  next hp => cases hi; cases h; exact callRadio_move rfl (.startAdv hp) rfl
  next hp => cases hi; cases h; exact callRadio_move rfl (.stopAdv hp) rfl
  all_goals cases hi

/-- A command leaves ADV in its phase or takes it to `A_TERM`, and nothing leaves the ports (R162 to R165). -/
theorem exec_command_phase {i : Instr} {s t : State} (hf : i.format = .cc) (h : exec i s = .next t) :
    ∃ adv, t = { s with adv := adv } ∧ (adv.phase = s.adv.phase ∨ adv.phase = .term) := by
  cases i with
  | start unused level | stop unused level | setPower unused level => cases h; exact ⟨_, rfl, .inl rfl⟩
  | terminate unused level => cases h; exact ⟨_, rfl, .inr rfl⟩
  | _ => cases hf

theorem advDrainEnd_phase (s : State) :
    ∃ adv, advDrainEnd s = s.setAdv adv ∧ (adv.phase = .synth ∨ adv.phase = .idle) := by
  unfold advDrainEnd
  split
  · exact ⟨_, rfl, .inl rfl⟩
  · exact ⟨_, rfl, .inr rfl⟩

/-- Whether ADV is in the window that `START_ADV` opens and `STOP_ADV` closes (R173). -/
def APhase.airing (p : APhase) : Bool := p == .hold || p == .stop

theorem APhase.airing_eq_false_of_inCycle {p : APhase} (h : p.inCycle = false) : p.airing = false := by
  cases p with
  | hold | stop => cases h
  | _ => rfl

/-- Everything ADV's step can be at the radio: nothing; a move from outside the window to outside the cycle; a new profile;
an operation; or the end of the hold. -/
inductive AdvRadioMove (s : State) : State → Prop where
  | nothing : AdvRadioMove s s
  | outside {t : State} (hcfg : t.cfg = s.cfg) (hcalls : t.radioCalls = s.radioCalls) (hon : s.adv.phase ≠ .halt)
      (hs : s.adv.phase.airing = false) (ht : t.adv.phase.inCycle = false) : AdvRadioMove s t
  | synth (hp : s.adv.phase = .synth) : AdvRadioMove s (advSynth s)
  | issue {t : State} (h : IssueMove s t) : AdvRadioMove s t
  | holdEnds (hp : s.adv.phase = .hold) : AdvRadioMove s (s.setAdv { s.adv with phase := .stop })

theorem AdvMove.radioMove {s t : State} (h : AdvMove s t) : AdvRadioMove s t := by
  cases h with
  | command w rest hp hq hx =>
    obtain ⟨adv, rfl, hphase⟩ := exec_command_phase (decodeCc_format w) hx
    refine .outside rfl rfl (by simp [hp]) (by simp [hp, APhase.airing]) ?_
    obtain hphase | hphase := hphase
    · rw [hphase, State.setCtlQ_adv, hp]; rfl
    · rw [hphase]; rfl
  | drainEnds hp hq =>
    obtain ⟨adv, he, hphase⟩ := advDrainEnd_phase s
    rw [he]
    refine .outside rfl rfl (by simp [hp]) (by simp [hp, APhase.airing]) ?_
    obtain hphase | hphase := hphase <;> rw [State.setAdv_adv, hphase] <;> rfl
  | synth hp => exact .synth hp
  | issue i hi hx => exact .issue (exec_issued_move hi hx)
  | holdEnds hp => exact .holdEnds hp
  | delayEnds hp => obtain hp | hp := hp <;> exact .outside rfl rfl (by simp [hp]) (by simp [hp, APhase.airing]) rfl
  | halted hp => exact .nothing

/-! ## The profile (R168, R176) -/

/-- The two top bits of the first byte are forced to 1 (R169). -/
theorem chooseAddress_masked (r1 r2 : Draw) : Address.masked (chooseAddress r1 r2) := by
  have hmask (b m : Byte) : (b ||| m) &&& m = m := by
    ext i hi
    simpa using Or.inr
  exact hmask _ 0xC0

theorem pools_ne_nil_of_legal {p : Params} (h : p.legal = true) : p.poolLong ≠ [] ∧ p.poolShort ≠ [] := by
  simp only [Params.legal, Params.poolWf, Bool.and_eq_true] at h
  simp_all

theorem getD_mod_length_mem {α : Type} {l : List α} (h : l ≠ []) (n : Nat) (d : α) : l.getD (n % l.length) d ∈ l := by
  have hlt : n % l.length < l.length := Nat.mod_lt _ (List.length_pos_of_ne_nil h)
  rw [List.getD_eq_getElem l d hlt]
  exact List.getElem_mem hlt

/-- With pools that are not empty the payload is an entry of one of them (R168). -/
theorem choosePayload_mem {p : Params} (h : p.legal = true) (r1 : Draw) :
    choosePayload p r1 ∈ p.poolLong ∨ choosePayload p r1 ∈ p.poolShort := by
  obtain ⟨hlong, hshort⟩ := pools_ne_nil_of_legal h
  unfold choosePayload
  split
  · exact .inr (getD_mod_length_mem hshort _ _)
  · exact .inl (getD_mod_length_mem hlong _ _)

/-- The address is masked and the payload is an entry of a pool. -/
def Profile.Fit (cfg : Params) (p : Profile) : Prop :=
  Address.masked p.addr ∧ (p.payload ∈ cfg.poolLong ∨ p.payload ∈ cfg.poolShort)

theorem advSynth_profile_fit {s : State} (h : s.cfg.legal = true) : (advSynth s).adv.profile.Fit s.cfg :=
  ⟨chooseAddress_masked _ _, choosePayload_mem h _⟩

/-- The operand of an operation, where it has an address or a payload, is as in a fit profile. -/
def RadioOp.Fit (cfg : Params) : RadioOp → Prop
  | .setAddr a => Address.masked a
  | .setAdv _ p => p ∈ cfg.poolLong ∨ p ∈ cfg.poolShort
  | _ => True

/-- ADV issues with the operands of its profile. -/
theorem Issues.fit {a : Adv} {op : RadioOp} {p : APhase} (h : Issues a op p) {cfg : Params} (hfit : a.profile.Fit cfg) :
    op.Fit cfg := by
  cases h with
  | setAddr hp => exact hfit.1
  | setAdv hp => exact hfit.2
  | _ => trivial

theorem Issues.inCycle {a : Adv} {op : RadioOp} {p : APhase} (h : Issues a op p) : a.phase.inCycle = true := by
  cases h with
  | setAddr hp | setTxpwr hp | setAdv hp | startAdv hp | stopAdv hp => rw [hp]; rfl

/-! ## The operands at the port -/

theorem radioInv_iff {s : State} :
    RadioInv s ↔ (∀ c ∈ s.radioCalls, c.1.Fit s.cfg) ∧ (s.adv.phase.inCycle = true → s.adv.profile.Fit s.cfg) := by
  refine ⟨fun h => ⟨fun ⟨op, r⟩ hc => ?_, fun hp => ⟨h.addrNow hp, h.payloadNow hp⟩⟩,
    fun ⟨hcalls, hnow⟩ => ?_⟩
  · have hout := mem_radioCalls_iff.1 hc
    cases op with
    | setAddr a => exact h.addrOut a r hout
    | setAdv m p => exact h.payloadOut m p r hout
    | _ => trivial
  · exact ⟨fun a r hout => hcalls _ (mem_radioCalls_iff.2 hout), fun m p r hout => hcalls _ (mem_radioCalls_iff.2 hout),
      fun hp => (hnow hp).1, fun hp => (hnow hp).2⟩

namespace RadioInv

variable {s t : State}

/-- Nothing leaves the port, and where ADV is in a cycle afterwards its profile is fit. -/
theorem of_calls (h : RadioInv s) (hcfg : t.cfg = s.cfg) (hcalls : t.radioCalls = s.radioCalls)
    (hnow : t.adv.phase.inCycle = true → t.adv.profile.Fit s.cfg) : RadioInv t :=
  radioInv_iff.2 ⟨by rw [hcalls, hcfg]; exact (radioInv_iff.1 h).1, hcfg ▸ hnow⟩

theorem of_same (h : RadioInv s) (hs : SameRadio s t) : RadioInv t :=
  h.of_calls hs.cfg hs.calls fun hp => hs.profile ▸ (radioInv_iff.1 h).2 (hs.phase ▸ hp)

theorem issueMove (h : RadioInv s) (hm : IssueMove s t) : RadioInv t := by
  obtain ⟨hcalls, hnow⟩ := radioInv_iff.1 h
  have sent {op : RadioOp} {p : APhase} (hi : Issues s.adv op p) (r : Status) :
      ∀ c ∈ s.radioCalls ++ [(op, r)], c.1.Fit s.cfg :=
    List.forall_mem_append.2 ⟨hcalls, List.forall_mem_singleton.2 (hi.fit (hnow hi.inCycle))⟩
  cases hm with
  | accepted hi hcfg ht hprofile =>
    exact radioInv_iff.2 ⟨by rw [ht, hcfg]; exact sent hi .ok, fun _ => hprofile ▸ hcfg ▸ hnow hi.inCycle⟩
  | refused hi hcfg ht hhalt =>
    exact radioInv_iff.2 ⟨by rw [ht, hcfg]; exact sent hi .err, fun hp => absurd (hhalt ▸ hp) nofun⟩

theorem advMove (hlegal : s.cfg.legal = true) (h : RadioInv s) (hm : AdvMove s t) : RadioInv t := by
  cases hm.radioMove with
  | nothing => exact h
  | outside hcfg hcalls hon hs ht => exact h.of_calls hcfg hcalls fun hp => absurd (ht.symm.trans hp) nofun
  | synth hp => exact h.of_calls rfl rfl fun _ => advSynth_profile_fit hlegal
  | issue hi => exact h.issueMove hi
  | holdEnds hp => exact h.of_calls rfl rfl fun _ => (radioInv_iff.1 h).2 (by rw [hp]; rfl)

end RadioInv

/-- Settles O55, by what a step can be for the radio: a new profile is masked and from a pool, ADV issues the operands of its
profile, and every other step leaves the port alone. -/
theorem stepKeepsRadioInv : Obligations.StepKeepsRadioInv := by
  intro s t hlegal h hstep
  obtain ⟨inp, hm⟩ | ⟨-, rfl⟩ | hs := step_radio_cases hstep
  · exact (h.of_same (.begin s inp)).advMove (by rw [State.begin_cfg, hlegal]) hm
  · exact (h.of_same (.dropChoice s)).of_calls rfl rfl nofun
  · exact h.of_same hs

/-! ## On air -/

theorem onAirInHold_iff {s : State} :
    OnAirInHold s ↔ s.adv.phase = .halt ∨ s.radioCalls.foldl airAfter false = s.adv.phase.airing := by
  rw [← onAir_eq_foldl]
  rfl

/-- An accepted `START_ADV` opens the window, an accepted `STOP_ADV` closes it, and the others are outside it (R173). -/
theorem Issues.airAfter {a : Adv} {op : RadioOp} {p : APhase} (h : Issues a op p) :
    airAfter a.phase.airing (op, .ok) = p.airing := by
  cases h with
  | setAddr hp | setTxpwr hp | setAdv hp | startAdv hp | stopAdv hp => rw [hp]; rfl

theorem Issues.phase_ne_halt {a : Adv} {op : RadioOp} {p : APhase} (h : Issues a op p) : a.phase ≠ .halt :=
  fun hp => absurd (hp ▸ h.inCycle) nofun

namespace OnAirInHold

variable {s t : State}

theorem of_same (h : OnAirInHold s) (hs : SameRadio s t) : OnAirInHold t := by
  rw [onAirInHold_iff] at h ⊢
  rwa [hs.phase, hs.calls]

/-- Where ADV is not halted the operations that have left the port tell its place. -/
theorem calls_eq (h : OnAirInHold s) (hp : s.adv.phase ≠ .halt) :
    s.radioCalls.foldl airAfter false = s.adv.phase.airing := (onAirInHold_iff.1 h).resolve_left hp

/-- Nothing leaves the port, and ADV does not cross an end of the window. -/
theorem of_calls (h : OnAirInHold s) (hp : s.adv.phase ≠ .halt) (hcalls : t.radioCalls = s.radioCalls)
    (hair : t.adv.phase.airing = s.adv.phase.airing) : OnAirInHold t :=
  onAirInHold_iff.2 (.inr (by rw [hcalls, h.calls_eq hp, hair]))

theorem issueMove (h : OnAirInHold s) (hm : IssueMove s t) : OnAirInHold t := by
  cases hm with
  | accepted hi hcfg ht hprofile =>
    refine onAirInHold_iff.2 (.inr ?_)
    rw [ht, List.foldl_append, h.calls_eq hi.phase_ne_halt]
    exact hi.airAfter
  | refused hi hcfg ht hhalt => exact .inl hhalt

theorem advMove (h : OnAirInHold s) (hm : AdvMove s t) : OnAirInHold t := by
  cases hm.radioMove with
  | nothing => exact h
  | outside hcfg hcalls hon hs ht => exact h.of_calls hon hcalls ((APhase.airing_eq_false_of_inCycle ht).trans hs.symm)
  | synth hp => exact h.of_calls (by simp [hp]) rfl (by rw [hp]; rfl)
  | issue hi => exact h.issueMove hi
  | holdEnds hp => exact h.of_calls (by simp [hp]) rfl (by rw [hp]; rfl)

end OnAirInHold

/-- Settles O56, by what a step can be for the radio: the window is the hold and the phase after it, an accepted `START_ADV`
leads into it, an accepted `STOP_ADV` out of it, and a refused operation halts ADV. -/
theorem stepKeepsOnAirInHold : Obligations.StepKeepsOnAirInHold := by
  intro s t hnoReset h hstep
  obtain ⟨inp, hm⟩ | ⟨hreset, -⟩ | hs := step_radio_cases hstep
  · exact (h.of_same (.begin s inp)).advMove hm
  · exact absurd hreset hnoReset
  · exact h.of_same hs

end Sys2Proof.Machine
end

section
/-! DSP phase by phase (43_event_bus_dispatcher.md R204 to R214): what the lock gate and the reason codes do to the machine,
what a scheduled DSP runs, and the UI's power-off request. -/

namespace Sys2Proof.Machine

/-! ## The lock gate (R205) -/

theorem lockGate_of_locked {s : State} (h : s.dsp.lock = true) (w : EvWord) : lockGate w s = s := if_pos h

theorem lockGate_of_unlocked {s : State} (h : s.dsp.lock = false) (w : EvWord) : lockGate w s = s.output (.uiEvent w) :=
  if_neg (by simp [h])

/-- Settles O33: a window item is its own word at the lock gate, whatever its kind and fields, and the gate has two cases. -/
theorem windowEventsPassTheGate : Obligations.WindowEventsPassTheGate := by
  intro s f i kind hmem
  have hgate : exec i s = .next (lockGate (encodeWindow kind f) s) := by
    simp only [List.mem_cons, Prod.mk.injEq, List.not_mem_nil, or_false] at hmem
    obtain ⟨rfl, rfl⟩ | ⟨rfl, rfl⟩ | ⟨rfl, rfl⟩ | ⟨rfl, rfl⟩ | ⟨rfl, rfl⟩ | ⟨rfl, rfl⟩ := hmem <;> rfl
  rw [hgate]
  refine ⟨fun hl => ?_, fun hl => ?_⟩
  · rw [lockGate_of_locked hl]
  · rw [lockGate_of_unlocked hl]; rfl

/-! ## The reason codes (R206 to R210) -/

/-- Settles O35, by the chain of reason codes: each branch is one update of the state. -/
theorem pmuEventActs : Obligations.PmuEventActs := by
  intro s unused reg bit code
  change Host.Outcome.next (pmuAction code s) = _
  unfold pmuAction
  split_ifs <;> rfl

theorem codePekShort_ne_of_legal {p : Params} (h : p.legal = true) : p.codePekShort ≠ p.codeBatWarnL2 := by
  intro he
  simp [Params.legal, he] at h

/-! ## A scheduled DSP -/

section
variable {s : State} {inp : Inputs}

theorem step_of_dspEnabled (hc : s.nextChoice = .agent .dsp inp) (hon : s.sysOff = false)
    (he : (s.begin inp).dspEnabled = true) : step s = dspStep (s.begin inp) :=
  step_of_enabled hc (by simpa [State.enabled, hon] using he)

theorem step_of_dspWaits (hc : s.nextChoice = .agent .dsp inp) (he : (s.begin inp).dspEnabled = false) :
    step s = .next (s.begin inp) :=
  step_of_waits hc (by simp [State.enabled, he])

/-- The drain ends where the bus is empty (R204). -/
theorem step_of_dspDrainEnds (hc : s.nextChoice = .agent .dsp inp) (hon : s.sysOff = false) (hp : s.dsp.phase = .drain)
    (hq : s.evbQ = []) : step s = .next ((s.begin inp).setDsp { s.dsp with phase := .redraw }) := by
  rw [step_of_dspEnabled hc hon (by simp [State.dspEnabled, hp])]
  simp only [dspStep, dspDrain, State.begin_dsp, hp, State.begin_evbQ, hq, queueTryPop]

/-- The redraw and the two queries of the UI are one step (R211). -/
theorem step_of_dspRedraw (hc : s.nextChoice = .agent .dsp inp) (hon : s.sysOff = false) (hp : s.dsp.phase = .redraw) :
    step s = .next (dspRedraw (s.begin inp)) := by
  rw [step_of_dspEnabled hc hon (by simp [State.dspEnabled, hp])]
  simp only [dspStep, State.begin_dsp, hp]

/-- The frame sleep ends where the timer has run out (R212). -/
theorem step_of_dspWakes (hc : s.nextChoice = .agent .dsp inp) (hon : s.sysOff = false) (hp : s.dsp.phase = .sleep)
    (ht : s.dsp.timer = 0) : step s = .next ((s.begin inp).setDsp { s.dsp with phase := .drain }) := by
  rw [step_of_dspEnabled hc hon (by simp [State.dspEnabled, hp, ht])]
  simp only [dspStep, State.begin_dsp, hp]

end

/-- The redraw as one update: a pulse exactly where there is damage, and the delay of the UI's answer. -/
theorem dspRedraw_eq (s : State) :
    dspRedraw s = { (if s.env.inp.uiDamage then s.output .redraw else s) with
      dsp := { s.dsp with timer := if s.env.inp.uiAnim then 10 else 50, phase := .sleep } } := by
  cases hd : s.env.inp.uiDamage <;> simp [dspRedraw, hd, State.setDsp, Config.dspAnimMs, Config.dspIdleMs]

/-- Settles O7: the drain handles the head of the bus, which is the item it decodes to. -/
theorem stepRunsTheEvent : Obligations.StepRunsTheEvent := by
  intro s inp w rest i hc hon hp hq hi
  rw [step_of_dspDrain hc hon hp hq]
  simp only [dspHandle, hi]
  rfl

/-- Settles O37, phase by phase: in the frame sleep DSP is enabled exactly by a timer that has run out. -/
theorem dspTickGoesOn : Obligations.DspTickGoesOn := by
  intro s inp hc hon
  refine ⟨fun hp hq => ?_, fun hp => ?_, fun hp htimer => ?_, fun hp htimer => ?_⟩
  · exact step_of_dspDrainEnds hc hon hp hq
  · rw [step_of_dspRedraw hc hon hp, dspRedraw_eq, State.begin_inp, State.begin_dsp]
  · exact step_of_dspWaits hc (by simpa [State.dspEnabled, hp] using htimer)
  · exact step_of_dspWakes hc hon hp htimer

/-! ## The UI's power-off request (R214) -/

theorem uiPowerOffArrives_of_on {s : State} (h : s.sysOff = false) : uiPowerOffArrives s = powerOffAction s :=
  if_neg (by simp [h])

theorem uiPowerOffArrives_of_off {s : State} (h : s.sysOff = true) : uiPowerOffArrives s = s := if_pos h

/-- Settles O44: the step is the request's arrival, which names no phase. -/
theorem uiPowerOffActsAtOnce : Obligations.UiPowerOffActsAtOnce := by
  intro s hc hon
  rw [step_of_choice hc, move, uiPowerOffArrives_of_on (by simpa using hon)]
  rfl

end Sys2Proof.Machine
end

section
/-! The lock, the backlight, the charge indicator and the power (43_event_bus_dispatcher.md R207 to R209, R214): once
everything a step can do to the four, and from it what can power off, that the slow blink stays and that the backlight follows
the lock. -/

namespace Sys2Proof.Machine

/-- The registers that the reason codes write: `d_lock`, `d_backlight`, `d_led` and `sys_off`. -/
structure Panel where
  lock : Bool
  backlight : Bool
  led : LedPattern
  sysOff : Bool

def State.panel (s : State) : Panel := ⟨s.dsp.lock, s.dsp.backlight, s.dsp.led, s.sysOff⟩

@[simp] theorem State.dropChoice_panel (s : State) : s.dropChoice.panel = s.panel := by simp [State.panel]

@[simp] theorem State.begin_panel (s : State) (inp : Inputs) : (s.begin inp).panel = s.panel := by simp [State.panel]

/-- What a step can do to the panel, with what has to hold where it powers off and where it resets. -/
inductive PanelMove (p : Panel) (off reset : Prop) : Panel → Prop where
  | keeps : PanelMove p off reset p
  | lockToggles : PanelMove p off reset { p with lock := !p.lock, backlight := p.lock }
  | slowBlinks : PanelMove p off reset { p with led := .slowBlink }
  | powersOff (h : off) : PanelMove p off reset { p with sysOff := true }
  | resets (h : reset) : PanelMove p off reset ⟨false, true, .default, false⟩

namespace PanelMove

variable {p q : Panel} {off off' reset reset' : Prop}

theorem of_eq (h : q = p) : PanelMove p off reset q := h ▸ .keeps

theorem imp (h : PanelMove p off reset q) (hoff : off → off') (hreset : reset → reset') : PanelMove p off' reset' q := by
  cases h with
  | keeps => exact .keeps
  | lockToggles => exact .lockToggles
  | slowBlinks => exact .slowBlinks
  | powersOff h => exact .powersOff (hoff h)
  | resets h => exact .resets (hreset h)

/-- Only a reset sets the pattern back (R208). -/
theorem slowBlink (h : PanelMove p off reset q) (hreset : ¬ reset) (hled : p.led = .slowBlink) : q.led = .slowBlink := by
  cases h with
  | keeps | lockToggles | powersOff => exact hled
  | slowBlinks => rfl
  | resets h => exact absurd h hreset

theorem poweredOff (h : PanelMove p off reset q) (hon : p.sysOff = false) (hoff : q.sysOff = true) : off := by
  cases h with
  | keeps | lockToggles | slowBlinks => exact absurd (hon.symm.trans hoff) Bool.false_ne_true
  | powersOff h => exact h
  | resets h => cases hoff

/-- The toggle writes the lock and the backlight together, and no other move but a reset writes either (R207). -/
theorem backlight (h : PanelMove p off reset q) (hp : p.backlight = !p.lock) : q.backlight = !q.lock := by
  cases h with
  | keeps | slowBlinks | powersOff => exact hp
  | lockToggles => exact (Bool.not_not _).symm
  | resets h => rfl

end PanelMove

/-! ## DSP -/

/-- DSP is in its drain, and the head of the bus is a level-1 battery warning (R209). -/
def State.AtBatteryWarning (s : State) : Prop :=
  ∃ w rest, s.dsp.phase = .drain ∧ s.evbQ = w :: rest ∧ w.tag = true ∧ w.extractLsb' 0 6 = s.cfg.codeBatWarnL1

theorem State.begin_atBatteryWarning (s : State) (inp : Inputs) :
    (s.begin inp).AtBatteryWarning ↔ s.AtBatteryWarning := by simp [State.AtBatteryWarning]

theorem lockGate_panel (w : EvWord) (s : State) : (lockGate w s).panel = s.panel := by
  obtain ⟨env, he⟩ := lockGate_writes w s
  rw [he]; rfl

/-- Of the reason codes only the level-1 code powers off (R206 to R210). -/
theorem pmuAction_panelMove (code : ReasonCode) (s : State) :
    PanelMove s.panel (code = s.cfg.codeBatWarnL1) False (pmuAction code s).panel := by
  unfold pmuAction
  split_ifs with hshort hl2 hl1
  · exact .lockToggles
  · exact .slowBlinks
  · exact .powersOff hl1
  · exact .keeps

/-- The reason code of a PMU word is its bits 5:0 (30_encoding.md R74). -/
theorem reasonCode_eq (w : EvWord) : (w.extractLsb' 3 3 ++ w.extractLsb' 0 3 : ReasonCode) = w.extractLsb' 0 6 := by
  simp (disch := omega) only [BitVec.extractLsb'_append_extractLsb'_eq_extractLsb']

/-- Of DSP's moves only a popped PMU word changes the panel. -/
theorem DspMove.panelMove {s t : State} (h : DspMove s t) : PanelMove s.panel s.AtBatteryWarning False t.panel := by
  cases h with
  | event w rest i hp hq hd hx =>
    have hdec := decodeEv_decodes w
    rw [hd] at hdec
    cases hdec with
    | pmu ht =>
      cases hx
      exact (pmuAction_panelMove _ (s.setEvbQ rest)).imp
        (fun hcode => ⟨w, rest, hp, hq, ht, (reasonCode_eq w).symm.trans hcode⟩) id
    | ptrPressed | ptrMoved | ptrReleased | ptrExited | keyPressed | keyReleased =>
      cases hx; exact .of_eq (lockGate_panel _ _)
  | reservedEvent w rest err hp hq hd => exact .of_eq (lockGate_panel _ _)
  | drainEnds hp hq => exact .keeps
  | redraw hp => rw [dspRedraw_eq]; split <;> exact .keeps
  | wake hp => exact .keeps

/-! ## The other agents and the inputs -/

/-- No agent but DSP reaches the panel. -/
theorem agentStep_panel {a : Agent} {s t : State} (hne : a ≠ .dsp) (h : agentStep a s = .next t) : t.panel = s.panel := by
  cases a with
  | tga => obtain ⟨tga, q, env, rfl⟩ := (tgaStep_move h).writes; rfl
  | pid => cases h; obtain ⟨pid, q, env, he⟩ := (pidStep_move s).writes; rw [he]; rfl
  | adv => obtain ⟨adv, q, env, rfl, -⟩ := (advStep_move h).writes; rfl
  | dsp => exact absurd rfl hne

theorem touchEdgeArrives_panel (s : State) : (touchEdgeArrives s).panel = s.panel := by
  obtain ⟨tga, he⟩ := touchEdgeArrives_writes s
  rw [he]; rfl

theorem commandOffered_panel (w : CcWord) (s : State) : (commandOffered w s).panel = s.panel := by
  obtain ⟨-, he⟩ | ⟨-, he⟩ := commandOffered_cases w s
  · rw [he]; rfl
  · rw [he]

theorem elapseTime_panel (ms : Nat) (s : State) : (elapseTime ms s).panel = s.panel := by
  rw [elapseTime_eq]
  split <;> rfl

theorem elapsedQueryArrives_panel (s : State) : (elapsedQueryArrives s).panel = s.panel := by
  unfold elapsedQueryArrives
  split <;> rfl

theorem uiPowerOffArrives_panel (s : State) : (uiPowerOffArrives s).panel = { s.panel with sysOff := true } := by
  cases hoff : s.sysOff
  · rw [uiPowerOffArrives_of_on hoff]; rfl
  · rw [uiPowerOffArrives_of_off hoff, State.panel, hoff]

/-- What a step does to the panel: it powers off by the UI's request or at a level-1 battery warning, and resets by a reset. -/
theorem step_panelMove {s t : State} (h : step s = .next t) :
    PanelMove s.panel (s.nextChoice = .uiPowerOff ∨ ∃ inp, s.nextChoice = .agent .dsp inp ∧ s.AtBatteryWarning)
      (s.nextChoice = .powerOnReset) t.panel := by
  cases step_move h with
  | waits a inp hc he => exact .of_eq (s.begin_panel inp)
  | agent a inp hc he ha =>
    rw [← s.begin_panel inp]
    by_cases hdsp : a = .dsp
    · subst hdsp
      exact (dspStep_move ha).panelMove.imp (fun hw => .inr ⟨inp, hc, (s.begin_atBatteryWarning inp).1 hw⟩) False.elim
    · exact .of_eq (agentStep_panel hdsp ha)
  | touchEdge hc => exact .of_eq (by rw [touchEdgeArrives_panel, State.dropChoice_panel])
  | command w hc => exact .of_eq (by rw [commandOffered_panel, State.dropChoice_panel])
  | uiPowerOff hc =>
    rw [uiPowerOffArrives_panel, State.dropChoice_panel]
    exact .powersOff (.inl hc)
  | elapse ms hc => exact .of_eq (by rw [elapseTime_panel, State.dropChoice_panel])
  | elapsedQuery hc => exact .of_eq (by rw [elapsedQueryArrives_panel, State.dropChoice_panel])
  | powerOnReset hc => exact .resets hc

/-! ## The statements about the panel -/

/-- Settles O36: the level-2 code is not the power-key code, and no move but a reset sets the pattern back. -/
theorem slowBlinkStaysUntilReset : Obligations.SlowBlinkStaysUntilReset := by
  refine ⟨fun s unused reg bit hlegal hcode => ?_, fun s t hled hnoReset hstep =>
    (step_panelMove hstep).slowBlink hnoReset hled⟩
  rw [pmuEventActs, if_neg (hcode ▸ (codePekShort_ne_of_legal hlegal).symm), if_pos hcode]

/-- Settles O46: the one move that sets `sys_off` is the power-off, with its two causes. -/
theorem onlyTwoThingsPowerOff : Obligations.OnlyTwoThingsPowerOff := by
  intro s t hon hstep hoff
  obtain hui | ⟨inp, hc, w, rest, hp, hq, htag, hcode⟩ := (step_panelMove hstep).poweredOff hon hoff
  · exact .inl hui
  · exact .inr ⟨inp, w, rest, hc, hp, hq, htag, hcode⟩

/-- Settles O54: every move of the panel keeps the backlight opposite to the lock. -/
theorem stepKeepsBacklight : Obligations.StepKeepsBacklight :=
  fun _ _ h hstep => (step_panelMove hstep).backlight h

end Sys2Proof.Machine
end

section
/-! Whose step a step is, and the timers (60_exceptions.md R250): an agent's phase, its timer and ADV's generator change by
its own step, by the passing of time or by a reset, and in no other way; an enabled agent's timer has run out, and the agent's
step leaves it so or loads the delay of the phase it leads to. -/

namespace Sys2Proof.Machine

/-! ## Timers and delays -/

/-- The longest delay that a phase loads (R250); 0 where no timer runs. -/
def TPhase.delay (p : TPhase) : Nat := if p = .sleep then 20 else 0
def PPhase.delay (p : PPhase) : Nat := if p = .sleep then 50 else 0
def DPhase.delay (p : DPhase) : Nat := if p = .sleep then 50 else 0
def APhase.delay (settle : Timer) (p : APhase) : Nat :=
  if p = .idle then 500 else if p = .hold then 1000 else if p = .settle then settle.toNat else 0

def State.timer (s : State) : Agent → Timer
  | .tga => s.tga.timer
  | .pid => s.pid.timer
  | .adv => s.adv.timer
  | .dsp => s.dsp.timer

def State.delay (s : State) : Agent → Nat
  | .tga => s.tga.phase.delay
  | .pid => s.pid.phase.delay
  | .adv => s.adv.phase.delay s.cfg.settleMs
  | .dsp => s.dsp.phase.delay

/-- The agent's timer is within the delay of the agent's phase. -/
def State.TimerFits (s : State) (a : Agent) : Prop := (s.timer a).toNat ≤ s.delay a

theorem toNat_le_ite_iff (t : Timer) (p : Prop) [Decidable p] (n : Nat) :
    t.toNat ≤ (if p then n else 0) ↔ (t ≠ 0 → p) ∧ t.toNat ≤ n := by
  by_cases hp : p
  · simp [hp]
  · have hzero : t = 0 ↔ t.toNat = 0 := BitVec.toNat_eq
    simp only [hp, if_false, imp_false, not_not, hzero]
    omega

theorem toNat_le_advDelay_iff (t : Timer) (p : APhase) (settle : Timer) :
    t.toNat ≤ p.delay settle ↔ (t ≠ 0 → p = .idle ∨ p = .hold ∨ p = .settle) ∧ (p = .idle → t.toNat ≤ 500)
      ∧ (p = .hold → t.toNat ≤ 1000) ∧ (p = .settle → t.toNat ≤ settle.toNat) := by
  have hzero : t = 0 ↔ t.toNat = 0 := BitVec.toNat_eq
  cases p with
  | idle | hold | settle => simp [APhase.delay]
  | _ => simpa [APhase.delay] using hzero.symm

/-- The bounds of R250 are one bound for each agent. -/
theorem timersBounded_iff {s : State} : TimersBounded s ↔ ∀ a, s.TimerFits a := by
  have htga := toNat_le_ite_iff s.tga.timer (s.tga.phase = .sleep) 20
  have hpid := toNat_le_ite_iff s.pid.timer (s.pid.phase = .sleep) 50
  have hadv := toNat_le_advDelay_iff s.adv.timer s.adv.phase s.cfg.settleMs
  have hdsp := toNat_le_ite_iff s.dsp.timer (s.dsp.phase = .sleep) 50
  refine ⟨fun h a => ?_, fun h => ?_⟩
  · cases a with
    | tga => exact htga.2 ⟨h.tga, h.tgaMax⟩
    | pid => exact hpid.2 ⟨h.pid, h.pidMax⟩
    | adv => exact hadv.2 ⟨h.adv, h.advIdleMax, h.advHoldMax, h.advSettleMax⟩
    | dsp => exact hdsp.2 ⟨h.dsp, h.dspMax⟩
  · obtain ⟨ht, htmax⟩ := htga.1 (h .tga)
    obtain ⟨hp, hpmax⟩ := hpid.1 (h .pid)
    obtain ⟨ha, hidle, hhold, hsettle⟩ := hadv.1 (h .adv)
    obtain ⟨hd, hdmax⟩ := hdsp.1 (h .dsp)
    exact ⟨ht, htmax, hp, hpmax, ha, hidle, hhold, hsettle, hd, hdmax⟩

/-! ## Steps of others -/

/-- The agent `a` takes no step: its phase stays and its timer at most counts down; ADV's generator stays. -/
def Rests : Agent → State → State → Prop
  | .tga, s, t => t.tga.phase = s.tga.phase ∧ t.tga.timer.toNat ≤ s.tga.timer.toNat
  | .pid, s, t => t.pid.phase = s.pid.phase ∧ t.pid.timer.toNat ≤ s.pid.timer.toNat
  | .adv, s, t => t.adv.phase = s.adv.phase ∧ t.adv.timer.toNat ≤ s.adv.timer.toNat ∧ t.adv.rng = s.adv.rng
  | .dsp, s, t => t.dsp.phase = s.dsp.phase ∧ t.dsp.timer.toNat ≤ s.dsp.timer.toNat

namespace Rests

variable {s t : State}

/-- None of the agents' registers differs. -/
theorem of_eq (htga : t.tga = s.tga) (hpid : t.pid = s.pid) (hadv : t.adv = s.adv) (hdsp : t.dsp = s.dsp) (a : Agent) :
    Rests a s t := by
  cases a <;> simp [Rests, htga, hpid, hadv, hdsp]

theorem fits {a : Agent} (h : Rests a s t) (hcfg : t.cfg = s.cfg) (hf : s.TimerFits a) : t.TimerFits a := by
  cases a with
  | tga | pid | dsp =>
    obtain ⟨hp, ht⟩ := h
    simp only [State.TimerFits, State.timer, State.delay, hp] at hf ⊢
    exact ht.trans hf
  | adv =>
    obtain ⟨hp, ht, -⟩ := h
    simp only [State.TimerFits, State.timer, State.delay, hp, hcfg] at hf ⊢
    exact ht.trans hf

theorem begin (inp : Inputs) (a : Agent) : Rests a s (s.begin inp) := by
  refine of_eq ?_ ?_ ?_ ?_ a <;> simp

/-- The latch of an edge is no part of the phase or the timer (R241). -/
theorem touchEdgeArrives (a : Agent) : Rests a s (touchEdgeArrives s.dropChoice) := by
  unfold Machine.touchEdgeArrives Tga.latchEdge
  split_ifs <;> cases a <;> simp [Rests]

theorem commandOffered (w : CcWord) (a : Agent) : Rests a s (commandOffered w s.dropChoice) := by
  obtain ⟨-, he⟩ | ⟨-, he⟩ := commandOffered_cases w s.dropChoice
  all_goals rw [he]; refine of_eq ?_ ?_ ?_ ?_ a <;> simp

theorem uiPowerOffArrives (a : Agent) : Rests a s (uiPowerOffArrives s.dropChoice) := by
  obtain ⟨off, env, he⟩ := uiPowerOffArrives_writes s.dropChoice
  rw [he]; refine of_eq ?_ ?_ ?_ ?_ a <;> simp

theorem elapsedQueryArrives (a : Agent) : Rests a s (elapsedQueryArrives s.dropChoice) := by
  obtain ⟨start, env, he⟩ := elapsedQueryArrives_writes s.dropChoice
  rw [he]; refine of_eq ?_ ?_ ?_ ?_ a <;> simp

/-- Each timer counts down together with the others (10_state.md R40). -/
theorem elapseTime (ms : Nat) (a : Agent) : Rests a s (elapseTime ms s.dropChoice) := by
  rw [elapseTime_eq]
  split <;> cases a <;> simp [Rests, timerAfter_toNat]

end Rests

/-- For an agent a step is one of three: its own, a reset, or one that it rests in (10_state.md R20). -/
theorem step_agent_cases {s t : State} (h : step s = .next t) (a : Agent) :
    (∃ inp, s.nextChoice = .agent a inp ∧ (s.begin inp).enabled a = true ∧ agentStep a (s.begin inp) = .next t)
    ∨ (s.nextChoice = .powerOnReset ∧ t = powerOnReset s.dropChoice) ∨ Rests a s t := by
  cases step_move h with
  | waits b inp hc he => exact .inr (.inr (.begin inp a))
  | agent b inp hc he hb =>
    by_cases hab : b = a
    · exact .inl ⟨inp, hab ▸ hc, hab ▸ he, hab ▸ hb⟩
    · obtain ⟨-, hown⟩ := agentsWriteOnlyTheirOwn s t h
      obtain ⟨htga, hpid, hadv, hdsp, -⟩ := hown b inp hc
      refine .inr (.inr ?_)
      cases a with
      | tga => simp [Rests, htga hab]
      | pid => simp [Rests, hpid hab]
      | adv => simp [Rests, hadv hab]
      | dsp => simp [Rests, hdsp hab]
  | touchEdge hc => exact .inr (.inr (.touchEdgeArrives a))
  | command w hc => exact .inr (.inr (.commandOffered w a))
  | uiPowerOff hc => exact .inr (.inr (.uiPowerOffArrives a))
  | elapse ms hc => exact .inr (.inr (.elapseTime ms a))
  | elapsedQuery hc => exact .inr (.inr (.elapsedQueryArrives a))
  | powerOnReset hc => exact .inr (.inl ⟨hc, rfl⟩)

/-! ## An agent's own step and its timer -/

/-- An enabled agent's timer has run out: outside its sleep phases none runs, and in them the agent waits for it. -/
theorem timer_eq_zero_of_enabled {s : State} {a : Agent} (hf : s.TimerFits a) (he : s.enabled a = true) : s.timer a = 0 := by
  obtain ⟨-, he⟩ := Bool.and_eq_true_iff.1 he
  by_contra hne
  cases a with
  | tga =>
    obtain ⟨hp, -⟩ := (toNat_le_ite_iff _ _ _).1 hf
    exact hne (by simpa [State.timer, State.tgaEnabled, hp hne] using he)
  | pid =>
    obtain ⟨hp, -⟩ := (toNat_le_ite_iff _ _ _).1 hf
    exact hne (by simpa [State.timer, State.pidEnabled, hp hne] using he)
  | adv =>
    obtain ⟨hp, -⟩ := (toNat_le_advDelay_iff _ _ _).1 hf
    obtain hp | hp | hp := hp hne <;> exact hne (by simpa [State.timer, State.advEnabled, hp] using he)
  | dsp =>
    obtain ⟨hp, -⟩ := (toNat_le_ite_iff _ _ _).1 hf
    exact hne (by simpa [State.timer, State.dspEnabled, hp hne] using he)

theorem Tga.VisitMove.timer {t u : Tga} {p : Point} (h : VisitMove t p u) : u.timer = t.timer := by
  cases h <;> simp [Tga.give]

theorem Tga.releaseIfAbsent_timer (seen : List TouchId) (i : TouchId) (t : Tga) :
    (t.releaseIfAbsent seen i).timer = t.timer := by
  by_cases hmem : i ∈ seen
  · rw [releaseIfAbsent_of_mem hmem]
  · simp [releaseIfAbsent_of_not_mem hmem]

theorem Tga.visitAll_timer (t : Tga) (ws : List TpWord) : (t.visitAll ws).timer = t.timer := by
  induction ws generalizing t with
  | nil => rfl
  | cons w ws ih => rw [Tga.visitAll_cons, ih, (t.visitPoint_move (pointOf w)).timer]

theorem Tga.iterate_timer (t : Tga) (l : List TpWord) : (t.iterate l).timer = t.timer := by
  simp [Tga.iterate, Tga.releaseScan, Tga.releaseIfAbsent_timer, Tga.visitAll_timer]

/-- What an agent's step may do to its timer: nothing, or load the delay of its new phase. -/
def TimerKeptOrLoaded (a : Agent) (s t : State) : Prop := t.timer a = s.timer a ∨ t.TimerFits a

theorem TgaMove.timer {s t : State} (h : TgaMove s t) : TimerKeptOrLoaded .tga s t := by
  cases h with
  | allSent hp hq => exact .inr (Nat.le_refl 20)
  | iteration sf hp hr => exact .inl (s.tga.iterate_timer _)
  | _ => exact .inl rfl

theorem PidMove.timer {s t : State} (h : PidMove s t) : TimerKeptOrLoaded .pid s t := by
  cases h with
  | allSent hp hq => exact .inr (Nat.le_refl 50)
  | _ => exact .inl rfl

/-- A command writes neither ADV's timer nor its generator (42_adv_randomizer.md R162 to R165). -/
theorem exec_command_timer_rng {i : Instr} {s t : State} (hf : i.format = .cc) (h : exec i s = .next t) :
    t.adv.timer = s.adv.timer ∧ t.adv.rng = s.adv.rng := by
  cases i with
  | start unused level | stop unused level | setPower unused level | terminate unused level => cases h; exact ⟨rfl, rfl⟩
  | _ => cases hf

/-- A radio operation's effect on ADV: the effect of its acceptance, or the halt. -/
theorem callRadio_adv_cases {c : FatalCause} (hc : causeAgent c = .adv) (op : RadioOp) (onOk : Adv → Adv) (s : State) :
    (callRadio op c onOk s).cfg = s.cfg
    ∧ ((callRadio op c onOk s).adv = onOk s.adv ∨ (callRadio op c onOk s).adv = { s.adv with phase := .halt }) := by
  cases hr : s.env.inp.radio with
  | ok => rw [callRadio_ok op c onOk s hr]; exact ⟨rfl, .inl rfl⟩
  | err => rw [callRadio_halts hc op onOk hr]; exact ⟨rfl, .inr rfl⟩

/-- An operation that loads no delay. -/
theorem callRadio_timer_of_kept {c : FatalCause} (hc : causeAgent c = .adv) (op : RadioOp) {onOk : Adv → Adv} {s : State}
    (hk : (onOk s.adv).timer = s.adv.timer) : TimerKeptOrLoaded .adv s (callRadio op c onOk s) := by
  obtain ⟨-, ha | ha⟩ := callRadio_adv_cases hc op onOk s
  · exact .inl ((congrArg Adv.timer ha).trans hk)
  · exact .inl (by simp only [State.timer, ha])

/-- An operation that, where accepted, loads the delay of the phase it leads to. -/
theorem callRadio_timer_of_loaded {c : FatalCause} (hc : causeAgent c = .adv) (op : RadioOp) {onOk : Adv → Adv} {s : State}
    (hl : (onOk s.adv).timer.toNat ≤ (onOk s.adv).phase.delay s.cfg.settleMs) :
    TimerKeptOrLoaded .adv s (callRadio op c onOk s) := by
  obtain ⟨hcfg, ha | ha⟩ := callRadio_adv_cases hc op onOk s
  · exact .inr (by simpa only [State.TimerFits, State.timer, State.delay, hcfg, ha] using hl)
  · exact .inl (by simp only [State.timer, ha])

/-- Of the radio operations the start loads the hold's delay and the stop the settle delay (R173). -/
theorem exec_radio_timer {i : Instr} {s t : State} (hf : i.format = .ro) (h : exec i s = .next t) :
    TimerKeptOrLoaded .adv s t := by
  cases i with
  | roSetAddr addr | roSetTxpwr step | roSetAdv mode payload => cases h; exact callRadio_timer_of_kept rfl _ rfl
  | roStartAdv => cases h; exact callRadio_timer_of_loaded rfl _ (Nat.le_refl 1000)
  | roStopAdv => cases h; exact callRadio_timer_of_loaded rfl _ (Nat.le_refl s.cfg.settleMs.toNat)
  | _ => cases hf

theorem AdvMove.timer {s t : State} (h : AdvMove s t) : TimerKeptOrLoaded .adv s t := by
  cases h with
  | command w rest hp hq hx => exact .inl (exec_command_timer_rng (decodeCc_format w) hx).1
  | drainEnds hp hq =>
    unfold advDrainEnd
    split
    · exact .inl rfl
    · exact .inr (Nat.le_refl 500)
  | issue i hi hx => exact exec_radio_timer (Adv.issued_format hi) hx
  | synth | holdEnds | delayEnds | halted => exact .inl rfl

theorem lockGate_dsp (w : EvWord) (s : State) : (lockGate w s).dsp = s.dsp := by
  obtain ⟨env, he⟩ := lockGate_writes w s
  rw [he]

theorem pmuAction_timer (code : ReasonCode) (s : State) : (pmuAction code s).dsp.timer = s.dsp.timer := by
  unfold pmuAction
  split_ifs <;> rfl

/-- An event loads no delay (43_event_bus_dispatcher.md R205 to R210). -/
theorem exec_event_timer {i : Instr} {s t : State} (hf : i.format = .ev) (h : exec i s = .next t) :
    t.dsp.timer = s.dsp.timer := by
  cases i with
  | evPtrPressed f | evPtrMoved f | evPtrReleased f | evPtrExited f | evKeyPressed f | evKeyReleased f =>
    cases h; exact congrArg Dsp.timer (lockGate_dsp _ s)
  | evPmu unused reg bit => cases h; exact pmuAction_timer _ s
  | _ => cases hf

theorem DspMove.timer {s t : State} (h : DspMove s t) : TimerKeptOrLoaded .dsp s t := by
  cases h with
  | event w rest i hp hq hd hx =>
    have hkept := exec_event_timer (decodeEv_format hd) hx
    exact .inl hkept
  | reservedEvent w rest err hp hq hd => exact .inl (congrArg Dsp.timer (lockGate_dsp w (s.setEvbQ rest)))
  | redraw hp =>
    have hdelay : (if s.env.inp.uiAnim then 10 else 50 : Timer).toNat ≤ 50 := by split <;> decide
    rw [dspRedraw_eq]
    exact .inr hdelay
  | drainEnds | wake => exact .inl rfl

theorem agentStep_timer {a : Agent} {s t : State} (h : agentStep a s = .next t) : TimerKeptOrLoaded a s t := by
  cases a with
  | tga => exact (tgaStep_move h).timer
  | pid => cases h; exact (pidStep_move s).timer
  | adv => exact (advStep_move h).timer
  | dsp => exact (dspStep_move h).timer

/-- A kept timer has run out, and 0 is within every delay. -/
theorem agentStep_fits {a : Agent} {s t : State} (hf : s.TimerFits a) (he : s.enabled a = true)
    (h : agentStep a s = .next t) : t.TimerFits a := by
  obtain hkept | hloaded := agentStep_timer h
  · rw [State.TimerFits, hkept, timer_eq_zero_of_enabled hf he]
    exact Nat.zero_le _
  · exact hloaded

/-! ## The generator (R178) -/

theorem advDraws_rng_ne_zero {s : State} (h : s.adv.rng ≠ 0) : (advDraws s).2.2 ≠ 0 := by
  unfold advDraws
  split
  · exact h
  · exact lfsrShifts_ne_zero 32 (lfsrShifts_ne_zero 32 h)

theorem exec_radio_rng {i : Instr} {s t : State} (hf : i.format = .ro) (h : exec i s = .next t) : t.adv.rng = s.adv.rng := by
  have called {c : FatalCause} (hc : causeAgent c = .adv) (op : RadioOp) {onOk : Adv → Adv}
      (hk : (onOk s.adv).rng = s.adv.rng) : (callRadio op c onOk s).adv.rng = s.adv.rng := by
    obtain ⟨-, ha | ha⟩ := callRadio_adv_cases hc op onOk s
    · rw [ha, hk]
    · rw [ha]
  cases i with
  | roSetAddr addr | roSetTxpwr step | roSetAdv mode payload | roStartAdv | roStopAdv => cases h; exact called rfl _ rfl
  | _ => cases hf

/-- Of ADV's moves only the synthesis writes the generator, and no draw leads to 0. -/
theorem AdvMove.rng_ne_zero {s t : State} (hm : AdvMove s t) (h : s.adv.rng ≠ 0) : t.adv.rng ≠ 0 := by
  cases hm with
  | command w rest hp hq hx => rwa [(exec_command_timer_rng (decodeCc_format w) hx).2]
  | drainEnds hp hq => unfold advDrainEnd; split <;> exact h
  | synth hp => exact advDraws_rng_ne_zero h
  | issue i hi hx => rwa [exec_radio_rng (Adv.issued_format hi) hx]
  | holdEnds | delayEnds | halted => exact h

/-! ## The statement about timers -/

/-- Settles O58, agent by agent: its own step leaves the timer at 0 or loads a delay, any other step at most counts it down,
and a reset clears the timers and seeds the generator. -/
theorem stepKeepsTimersBounded : Obligations.StepKeepsTimersBounded := by
  intro s t hlegal hb hrng h
  refine ⟨timersBounded_iff.2 fun a => ?_, ?_⟩
  · have hf := timersBounded_iff.1 hb a
    obtain ⟨inp, -, he, ha⟩ | ⟨-, rfl⟩ | hrest := step_agent_cases h a
    · exact agentStep_fits ((Rests.begin inp a).fits (s.begin_cfg inp) hf) he ha
    · exact timersBounded_iff.1 (TimersBounded.powerOn _ _) a
    · exact hrest.fits (step_cfg h) hf
  · obtain ⟨inp, -, -, ha⟩ | ⟨-, rfl⟩ | ⟨-, -, hkept⟩ := step_agent_cases h .adv
    · exact (advStep_move ha).rng_ne_zero (by rwa [State.begin_adv])
    · exact rngSeed_ne_zero_of_legal (by rwa [State.dropChoice_cfg])
    · rwa [hkept]

end Sys2Proof.Machine
end

section
/-! Fatal faults and halted phases (60_exceptions.md R244 to R247): an agent comes to its halt phase by its own refused call
alone, and leaves it, or `A_TERM`, by a reset alone. -/

namespace Sys2Proof.Machine

/-! ## Steps that lead to a halt phase -/

section
variable {s t : State}

/-- Of TGA's moves only the failed read leads to `T_HALT` (R116). -/
theorem TgaMove.halts (h : TgaMove s t) (hne : s.tga.phase ≠ .halt) (hhalt : t.tga.phase = .halt) :
    t = { (s.output (.call .touchRead .err)).output (.log 0x01) with tga := { s.tga with phase := .halt } } := by
  cases h with
  | readFails hp hr => exact raiseFatal_touchRead _
  | sessionStart | iteration | allSent => cases hhalt
  | send e rest hp hq => exact absurd hhalt hne
  | wake hp => cases he : s.tga.empty <;> simp [tgaWake, he] at hhalt
  | halted hp => exact absurd hp hne

/-- Of PID's moves only the failed read and the failed clear lead to `P_HALT` (R148). -/
theorem PidMove.halts (h : PidMove s t) (hne : s.pid.phase ≠ .halt) (hhalt : t.pid.phase = .halt) :
    ∃ call log, (call, log) ∈ [(Call.pmuRead, 0x12#8), (Call.pmuClear, 0x13#8)]
      ∧ t = { (s.output (.call call .err)).output (.log log) with pid := { s.pid with phase := .halt } } := by
  cases h with
  | readFails hp hr => exact ⟨_, _, by simp, raiseFatal_pmuRead _⟩
  | clearFails hp hr => exact ⟨_, _, by simp, raiseFatal_pmuClear _⟩
  | lineAsserted | read | clear | allSent | wake => cases hhalt
  | send e rest hp hq => exact absurd hhalt hne
  | halted hp => exact absurd hp hne

/-- The radio operations of a profile with the log words of their faults (30_encoding.md R78). -/
def Adv.refusals (a : Adv) : List (RadioOp × LgWord) :=
  [(.setAddr a.profile.addr, 0x24#8), (.setTxpwr a.profile.step, 0x25#8),
    (.setAdv a.profile.mode a.profile.payload, 0x26#8), (.startAdv, 0x27#8), (.stopAdv, 0x28#8)]

/-- ADV halts by a refused operation of its profile. -/
def RefusedRadio (s t : State) : Prop :=
  ∃ op log, (op, log) ∈ s.adv.refusals
    ∧ t = { (s.output (.call (.radio op) .err)).output (.log log) with adv := { s.adv with phase := .halt } }

theorem callRadio_refused {c : FatalCause} (hc : causeAgent c = .adv) {op : RadioOp} {onOk : Adv → Adv}
    (hop : (op, fatalLog c) ∈ s.adv.refusals) (hok : (onOk s.adv).phase ≠ .halt)
    (hhalt : (callRadio op c onOk s).adv.phase = .halt) : RefusedRadio s (callRadio op c onOk s) := by
  cases hr : s.env.inp.radio with
  | ok => rw [callRadio_ok op c onOk s hr] at hhalt; exact absurd hhalt hok
  | err => exact ⟨op, fatalLog c, hop, callRadio_halts hc op onOk hr⟩

theorem exec_issued_refused {i : Instr} (hi : s.adv.issued = some i) (h : exec i s = .next t)
    (hhalt : t.adv.phase = .halt) : RefusedRadio s t := by
  unfold Adv.issued at hi
  split at hi
  case h_1 | h_2 | h_3 | h_4 | h_5 =>
    cases hi; cases h
    exact callRadio_refused rfl (by simp [Adv.refusals, fatalLog, causeAgent, agentNumber, causeCode]) nofun hhalt
  all_goals cases hi

/-- Of ADV's moves only a refused operation leads to `A_HALT` (R174). -/
theorem AdvMove.halts (h : AdvMove s t) (hne : s.adv.phase ≠ .halt) (hhalt : t.adv.phase = .halt) : RefusedRadio s t := by
  cases h with
  | command w rest hp hq hx =>
    obtain ⟨adv, rfl, hkept | hterm⟩ := exec_command_phase (decodeCc_format w) hx
    · exact absurd (hkept.symm.trans hhalt) hne
    · cases hterm.symm.trans hhalt
  | drainEnds hp hq =>
    obtain ⟨adv, he, hphase⟩ := advDrainEnd_phase s
    rw [he] at hhalt
    obtain hphase | hphase := hphase <;> cases hphase.symm.trans hhalt
  | issue i hi hx => exact exec_issued_refused hi hx hhalt
  | synth | holdEnds | delayEnds => cases hhalt
  | halted hp => exact absurd hhalt hne

end

/-- Settles O49: an agent that does not step itself keeps its phase, a reset leads to no halt phase, and of the agent's own
moves only those of a refused call do. -/
theorem faultReachesOneAgent : Obligations.FaultReachesOneAgent := by
  intro s t h
  refine ⟨fun hne hhalt => ?_, fun hne hhalt => ?_, fun hne hhalt => ?_⟩
  · obtain ⟨inp, hc, -, ha⟩ | ⟨-, rfl⟩ | ⟨hp, -⟩ := step_agent_cases h .tga
    · have ht := (tgaStep_move ha).halts (by rwa [State.begin_tga]) hhalt
      rw [State.begin_tga] at ht
      exact ⟨inp, hc, ht⟩
    · cases hhalt
    · exact absurd (hp.symm.trans hhalt) hne
  · obtain ⟨inp, hc, -, ha⟩ | ⟨-, rfl⟩ | ⟨hp, -⟩ := step_agent_cases h .pid
    · cases ha
      obtain ⟨call, log, hcall, ht⟩ := (pidStep_move (s.begin inp)).halts (by rwa [State.begin_pid]) hhalt
      rw [State.begin_pid] at ht
      exact ⟨inp, call, log, hc, hcall, ht⟩
    · cases hhalt
    · exact absurd (hp.symm.trans hhalt) hne
  · obtain ⟨inp, hc, -, ha⟩ | ⟨-, rfl⟩ | ⟨hp, -⟩ := step_agent_cases h .adv
    · obtain ⟨op, log, hop, ht⟩ := (advStep_move ha).halts (by rwa [State.begin_adv]) hhalt
      rw [State.begin_adv] at hop ht
      exact ⟨inp, op, log, hc, hop, ht⟩
    · cases hhalt
    · exact absurd (hp.symm.trans hhalt) hne

/-! ## Halted agents -/

section
variable {s t : State}

/-- The agent is in a halt phase, or ADV in `A_TERM`. -/
def State.Halted (s : State) : Agent → Prop
  | .tga => s.tga.phase = .halt
  | .pid => s.pid.phase = .halt
  | .adv => s.adv.phase = .halt ∨ s.adv.phase = .term
  | .dsp => False

theorem enabled_of_halted {a : Agent} (h : s.Halted a) : s.enabled a = false := by
  cases a with
  | tga => simp only [State.Halted] at h; simp [State.enabled, State.tgaEnabled, h]
  | pid => simp only [State.Halted] at h; simp [State.enabled, State.pidEnabled, h]
  | adv => obtain h | h := h <;> simp [State.enabled, State.advEnabled, h]
  | dsp => exact h.elim

theorem halted_begin {a : Agent} (inp : Inputs) (h : s.Halted a) : (s.begin inp).Halted a := by
  cases a with
  | tga | pid | adv => simpa [State.Halted] using h
  | dsp => exact h.elim

/-- A halted agent that is scheduled waits (R246). -/
theorem begin_of_halted {a : Agent} {inp : Inputs} (h : step s = .next t) (hh : s.Halted a)
    (hc : s.nextChoice = .agent a inp) : t = s.begin inp := by
  rw [step_of_waits hc (enabled_of_halted (halted_begin inp hh))] at h
  cases h; rfl

/-- A halted agent is never enabled, so it rests until a reset. -/
theorem rests_of_halted {a : Agent} (h : step s = .next t) (hnoReset : s.nextChoice ≠ .powerOnReset) (hh : s.Halted a) :
    Rests a s t := by
  obtain ⟨inp, -, he, -⟩ | ⟨hreset, -⟩ | hrest := step_agent_cases h a
  · rw [enabled_of_halted (halted_begin inp hh)] at he; cases he
  · exact absurd hreset hnoReset
  · exact hrest

end

/-- Settles O48: a halted agent is not enabled, so it waits where it is scheduled and rests in every other step but a reset. -/
theorem haltedStaysHalted : Obligations.HaltedStaysHalted := by
  intro s t h
  refine ⟨fun hnoReset => ⟨fun hp => ?_, fun hp => ?_, fun hp => ?_, fun hp => ?_⟩,
    fun inp hp => begin_of_halted (a := .tga) h hp, fun inp hp => begin_of_halted (a := .pid) h hp,
    fun inp hp => begin_of_halted (a := .adv) h hp, fun hreset => ?_⟩
  · exact (rests_of_halted (a := .tga) h hnoReset hp).1.trans hp
  · exact (rests_of_halted (a := .pid) h hnoReset hp).1.trans hp
  · exact (rests_of_halted (a := .adv) h hnoReset (.inl hp)).1.trans hp
  · exact (rests_of_halted (a := .adv) h hnoReset (.inr hp)).1.trans hp
  · cases step_of_choice hreset ▸ h
    exact ⟨rfl, rfl, rfl⟩

end Sys2Proof.Machine
end

section
/-! The inputs that no agent steps for (60_exceptions.md R241, R251, R256): the touch edge, the elapsed-time query and the
clock, and what is left of a step once the power is off. -/

namespace Sys2Proof.Machine

/-! ## The touch edge (R241) -/

theorem Tga.latchEdge_of_latched {latch : Bool} {t : Tga} (h : latch = true ∨ t.phase = .wait) :
    t.latchEdge latch = { t with irqPend := true } := if_pos (by simpa using h)

theorem Tga.latchEdge_of_lost {latch : Bool} {t : Tga} (hl : latch = false) (hp : t.phase ≠ .wait) :
    t.latchEdge latch = t := if_neg (by simp [hl, hp])

theorem touchEdgeArrives_of_on {s : State} (h : s.sysOff = false) :
    touchEdgeArrives s = s.setTga (s.tga.latchEdge s.cfg.tirqLatch) := if_neg (by simp [h])

theorem touchEdgeArrives_of_off {s : State} (h : s.sysOff = true) : touchEdgeArrives s = s := if_pos h

/-- Settles O38: the step is the edge's arrival, latched by the parameter or in `T_WAIT`. -/
theorem touchEdgeIsLatched : Obligations.TouchEdgeIsLatched := by
  intro s hc hon
  rw [step_of_choice hc, move, touchEdgeArrives_of_on (by simpa using hon), State.dropChoice_tga, State.dropChoice_cfg]
  refine ⟨fun hlatched => ?_, fun hl hp => ?_⟩
  · rw [Tga.latchEdge_of_latched hlatched]; rfl
  · rw [Tga.latchEdge_of_lost hl hp, ← s.dropChoice_tga, State.setTga_self]

/-! ## The clock and the start instant (R251) -/

theorem elapsedQueryArrives_of_on {s : State} (h : s.sysOff = false) : elapsedQueryArrives s = queryElapsed s :=
  if_neg (by simp [h])

theorem elapsedQueryArrives_of_off {s : State} (h : s.sysOff = true) : elapsedQueryArrives s = s := if_pos h

/-- No item moves the clock. -/
theorem exec_nowMs {i : Instr} {s t : State} (h : exec i s = .next t) : t.env.nowMs = s.env.nowMs := by
  have gate (w : EvWord) : (lockGate w s).env.nowMs = s.env.nowMs := by unfold lockGate; split <;> rfl
  have called (op : RadioOp) {c : FatalCause} (hc : causeAgent c = .adv) (onOk : Adv → Adv) :
      (callRadio op c onOk s).env.nowMs = s.env.nowMs := by
    cases hr : s.env.inp.radio with
    | ok => rw [callRadio_ok op c onOk s hr]; rfl
    | err => rw [callRadio_halts hc op onOk hr]; rfl
  cases i with
  | tpPressed | tpReleased | tpMoved | start | stop | setPower | terminate => cases h; rfl
  | evPtrPressed | evPtrMoved | evPtrReleased | evPtrExited | evKeyPressed | evKeyReleased => cases h; exact gate _
  | evPmu unused reg bit => rw [pmuEventActs] at h; cases h; split_ifs <;> rfl
  | roSetAddr | roSetTxpwr | roSetAdv | roStartAdv | roStopAdv => cases h; exact called _ rfl _

theorem TgaMove.nowMs {s t : State} (h : TgaMove s t) : t.env.nowMs = s.env.nowMs := by
  cases h <;> rfl

theorem PidMove.nowMs {s t : State} (h : PidMove s t) : t.env.nowMs = s.env.nowMs := by
  cases h <;> rfl

theorem AdvMove.nowMs {s t : State} (h : AdvMove s t) : t.env.nowMs = s.env.nowMs := by
  cases h with
  | command w rest hp hq hx =>
    have hkept := exec_nowMs hx
    exact hkept
  | drainEnds hp hq => obtain ⟨adv, he, -⟩ := advDrainEnd_phase s; rw [he]; rfl
  | issue i hi hx => exact exec_nowMs hx
  | synth | holdEnds | delayEnds | halted => rfl

theorem DspMove.nowMs {s t : State} (h : DspMove s t) : t.env.nowMs = s.env.nowMs := by
  cases h with
  | event w rest i hp hq hd hx =>
    have hkept := exec_nowMs hx
    exact hkept
  | reservedEvent w rest err hp hq hd => unfold lockGate; split <;> rfl
  | redraw hp => rw [dspRedraw_eq]; split <;> rfl
  | drainEnds | wake => rfl

/-- No agent's step moves the clock. -/
theorem agentStep_nowMs {a : Agent} {s t : State} (h : agentStep a s = .next t) : t.env.nowMs = s.env.nowMs := by
  cases a with
  | tga => exact (tgaStep_move h).nowMs
  | pid => cases h; exact (pidStep_move s).nowMs
  | adv => exact (advStep_move h).nowMs
  | dsp => exact (dspStep_move h).nowMs

/-- A step leaves the clock, and only the passing of time moves it on. -/
theorem step_nowMs_le {s t : State} (h : step s = .next t) : s.env.nowMs ≤ t.env.nowMs := by
  cases step_move h with
  | waits a inp hc he => simp
  | agent a inp hc he ha => simp [agentStep_nowMs ha]
  | touchEdge hc => obtain ⟨tga, he⟩ := touchEdgeArrives_writes s.dropChoice; simp [he]
  | command w hc => obtain ⟨-, he⟩ | ⟨-, he⟩ := commandOffered_cases w s.dropChoice <;> simp [he]
  | uiPowerOff hc => unfold uiPowerOffArrives; split <;> simp [powerOffAction]
  | elapse ms hc => rw [elapseTime_eq]; split <;> simp
  | elapsedQuery hc => unfold elapsedQueryArrives; split <;> simp [queryElapsed]
  | powerOnReset hc => simp [Machine.powerOnReset, State.powerOn]

/-- A query uses the instant that is taken. -/
theorem elapsedQueryArrives_startInstant {s : State} {n : Nat} (h : s.startInstant = some n) :
    (elapsedQueryArrives s).startInstant = some n := by
  unfold elapsedQueryArrives
  split
  · exact h
  · simp [queryElapsed, State.startNow, h]

/-- Only a query or a reset writes the start instant. -/
theorem step_startInstant {s t : State} {n : Nat} (h : step s = .next t) (hnoReset : s.nextChoice ≠ .powerOnReset)
    (hn : s.startInstant = some n) : t.startInstant = some n := by
  rw [← hn]
  cases step_move h with
  | waits a inp hc he => simp
  | agent a inp hc he ha =>
    obtain ⟨-, hown⟩ := agentsWriteOnlyTheirOwn s t h
    obtain ⟨-, -, -, -, -, -, -, hstart⟩ := hown a inp hc
    exact hstart
  | touchEdge hc => obtain ⟨tga, he⟩ := touchEdgeArrives_writes s.dropChoice; simp [he]
  | command w hc => obtain ⟨-, he⟩ | ⟨-, he⟩ := commandOffered_cases w s.dropChoice <;> simp [he]
  | uiPowerOff hc => obtain ⟨off, env, he⟩ := uiPowerOffArrives_writes s.dropChoice; simp [he]
  | elapse ms hc => rw [elapseTime_eq]; split <;> simp
  | elapsedQuery hc => rw [hn]; exact elapsedQueryArrives_startInstant (by simpa using hn)
  | powerOnReset hc => exact absurd hc hnoReset

/-- Settles O43: only the passing of time writes the clock and only a query or a reset the start instant, and the query is
`queryElapsed` exactly while the power is on. -/
theorem elapsedTimeIsMonotone : Obligations.ElapsedTimeIsMonotone := by
  refine ⟨fun s t h => ⟨step_nowMs_le h, fun hnoReset n hn => step_startInstant h hnoReset hn⟩, ?_⟩
  intro s hc start
  rw [step_of_choice hc, move]
  refine ⟨fun hon => ?_, fun hoff => ?_⟩
  · rw [elapsedQueryArrives_of_on (by simpa using hon), queryElapsed, State.startNow, State.dropChoice_startInstant,
      State.dropChoice_nowMs]
    rfl
  · rw [elapsedQueryArrives_of_off (by simpa using hoff)]

/-! ## Power-off (R256) -/

/-- Settles O45: no agent is enabled, no input but a command is taken, and time moves the clock alone. -/
theorem powerOffStopsEverything : Obligations.PowerOffStopsEverything := by
  intro s t hoff hnoReset h
  have hdrop : s.dropChoice.sysOff = true := by rwa [State.dropChoice_sysOff]
  cases step_move h with
  | waits a inp hc he => simp [hc, hoff]
  | agent a inp hc he ha =>
    rw [enabled_of_sysOff _ a (by rwa [State.begin_sysOff])] at he
    cases he
  | touchEdge hc => simp [touchEdgeArrives_of_off hdrop, hc, hoff]
  | command w hc =>
    obtain ⟨hroom, he⟩ | ⟨hfull, he⟩ := commandOffered_cases w s.dropChoice
    · rw [State.dropChoice_ctlQ] at hroom
      simp [he, hc, hoff, hroom]
    · rw [State.dropChoice_ctlQ] at hfull
      simp [he, hc, hoff, Nat.not_lt.2 hfull]
  | uiPowerOff hc => simp [uiPowerOffArrives_of_off hdrop, hc, hoff]
  | elapse ms hc => simp [elapseTime_eq, hc, hoff]
  | elapsedQuery hc => simp [elapsedQueryArrives_of_off hdrop, hc, hoff]
  | powerOnReset hc => exact absurd hc hnoReset

end Sys2Proof.Machine
end
